-- ==== Sys2Proof/Word.lean ====
section
/-! DEFINITION. The word types of mcp2003a-FTE (00_scope.md R18, R19): every stream element is one 8-bit byte, every
register is read and written as one 32-bit word, the output line carries one bit. There is no signed value. -/

namespace Sys2Proof

/-- One element of a stream or of a buffer (R18: 8 bits). -/
abbrev Byte := BitVec 8

/-- One register word (R32: 32 bits); also the width of every duration (R18). -/
abbrev Word := BitVec 32

/-- A level of the output line (R11: 0 or 1). -/
abbrev Level := BitVec 1

end Sys2Proof
end

