-- ==== Sys2Proof/Config.lean ====
section
/-! DEFINITION. What an implementation of mcp2003a-FTE fixes (00_scope.md R11, R15, R16; 93_implementation_defined.md U1,
U7, U9). The spec keeps these three as parameters of a model. A state carries the parameters of the machine it is a
state of (log entry 2), so that a claim about every state is a claim about every choice of them; no step changes them. -/

namespace Sys2Proof

/-- The parameters of one realisation of the block. -/
structure Config where
  /-- ASSERT_LEVEL (R11): the level of the line while a break or a wakeup pulse is asserted. -/
  assertLevel : Level
  /-- TICK_NS (R15, R318): the period of the clock, in nanoseconds; OPEN in the spec. -/
  tickNs : Nat
  /-- DEFAULT_RTO_NS (R16) as the millisecond count that the default profile holds. -/
  defaultRtoMs : Word
  deriving DecidableEq, Repr

/-- IDLE_LEVEL = 1 - ASSERT_LEVEL (R11). -/
def Config.idleLevel (c : Config) : Level := 1 - c.assertLevel

/-- The clock period that counting uses: a clock has a period of at least 1 ns (log entry 3). -/
def Config.period (c : Config) : Nat := max 1 c.tickNs

/-- This hardware: ASSERT_LEVEL = 1 (R11), the reference model's TICK_NS = 1 (R15), a 2 ms default timeout (R16). -/
def Config.thisHardware : Config := { assertLevel := 1, tickNs := 1, defaultRtoMs := 2 }

end Sys2Proof
end

