-- ==== Sys2Proof/Syntax.lean ====
section
/-! DEFINITION. The abstract syntax: one constructor of Instr per row of spec/opcode_table.json. The "instructions" of
this hardware are the command words that the host writes to CMD (30_encoding.md R104) and the answers that the transport
gives to the engine's TxByte, Flush and RxPoll actions (R111 to R113). The word formats of the four ports stand here too. -/

namespace Sys2Proof

/-- PHASE, the parser's program counter (10_state.md R45); codes 5 to 7 are never held (93 U45). -/
inductive Phase where
  | awaitSync | awaitId | readData | awaitChecksum | done
  deriving DecidableEq, Repr

/-- The 22 rows of spec/opcode_table.json. A byte operand is the byte that rides with the answer on the row's own
port: `rx_data` for the RX_BYTE rows, `rx_err` for RX_ERROR and RX_RESERVED_3, `tx_err` for TX_ERR. -/
inductive Instr where
  -- F-CMD: the command words (R104)
  | init
  | sendBreak
  | sendWakeup
  | sendFrame
  | readFrame
  | cmdReserved0
  | cmdReserved6
  | cmdReserved7
  -- F-RXANS: the answers to RxPoll (R112), RX_BYTE split by the parser's transition (R202 to R208)
  | rxWouldBlock
  | rxByteAwaitSyncSync (b : Byte)
  | rxByteAwaitSyncOther (b : Byte)
  | rxByteAwaitIdMatch (b : Byte)
  | rxByteAwaitIdMismatch (b : Byte)
  | rxByteReadDataMore (b : Byte)
  | rxByteReadDataLast (b : Byte)
  | rxByteAwaitChecksum (b : Byte)
  | rxError (e : Byte)
  | rxReserved3 (e : Byte)
  -- F-TXANS: the answers to TxByte (R111)
  | txOk
  | txErr (e : Byte)
  -- F-FLANS: the answers to Flush (R113)
  | flushOk
  | flushFail
  deriving DecidableEq, Repr

/-- F-TXANS (R111): the signals `tx_ans` and `tx_err` of the transmit port. -/
structure TxWord where
  ans : BitVec 1
  err : Byte
  deriving DecidableEq, Repr

/-- F-RXANS (R112): the signals `rx_kind`, `rx_data`, `rx_err` of the receive port. -/
structure RxWord where
  kind : BitVec 2
  data : Byte
  err  : Byte
  deriving DecidableEq, Repr

/-- A word on one of the four ports an instruction can come from; the port is part of the word, since the encodings of
the four ports overlap (R104, R111, R112, R113). -/
inductive PortWord where
  | cmd   (w : Word)
  | rx    (w : RxWord)
  | tx    (w : TxWord)
  | flush (ans : BitVec 1)
  deriving DecidableEq, Repr

/-- What the guards of the RX_BYTE rows read besides the byte (opcode_table.json "guard"): PHASE, OP_ID, OP_LEN, COUNT. -/
structure ParserView where
  phase : Phase
  opId  : Byte
  opLen : BitVec 4
  count : BitVec 4
  deriving DecidableEq, Repr

end Sys2Proof
end

