-- ==== Sys2Proof/WellFormed.lean ====
section
/-! DEFINITION. Which terms of Instr are instructions: the part of a row's guard that speaks of the word alone
(wellFormed) and the part that speaks of the parser's registers (guard), from spec/opcode_table.json's "guard" column and
43_resync_parser.md R202 to R210. -/

namespace Sys2Proof

/-- SYNC_BYTE (00_scope.md R7). -/
def syncByte : Byte := 0x55

/-- The check on the word alone: RX_BYTE.AwaitSync.sync carries 0x55 (R202), RX_BYTE.AwaitSync.other does not (R203). -/
def Instr.wellFormed : Instr → Bool
  | .init => true
  | .sendBreak => true
  | .sendWakeup => true
  | .sendFrame => true
  | .readFrame => true
  | .cmdReserved0 => true
  | .cmdReserved6 => true
  | .cmdReserved7 => true
  | .rxWouldBlock => true
  | .rxByteAwaitSyncSync b => b == syncByte
  | .rxByteAwaitSyncOther b => b != syncByte
  | .rxByteAwaitIdMatch _ => true
  | .rxByteAwaitIdMismatch _ => true
  | .rxByteReadDataMore _ => true
  | .rxByteReadDataLast _ => true
  | .rxByteAwaitChecksum _ => true
  | .rxError _ => true
  | .rxReserved3 _ => true
  | .txOk => true
  | .txErr _ => true
  | .flushOk => true
  | .flushFail => true

/-- The check on the parser's registers: the phase, and the comparison with OP_ID or with OP_LEN, under which the row
is the one that applies (R202 to R210). Rows of the other ports have no such guard. -/
def Instr.guard (v : ParserView) : Instr → Bool
  | .init => true
  | .sendBreak => true
  | .sendWakeup => true
  | .sendFrame => true
  | .readFrame => true
  | .cmdReserved0 => true
  | .cmdReserved6 => true
  | .cmdReserved7 => true
  | .rxWouldBlock => v.phase != .done
  | .rxByteAwaitSyncSync _ => v.phase == .awaitSync
  | .rxByteAwaitSyncOther _ => v.phase == .awaitSync
  | .rxByteAwaitIdMatch b => v.phase == .awaitId && b == v.opId
  | .rxByteAwaitIdMismatch b => v.phase == .awaitId && b != v.opId
  | .rxByteReadDataMore _ => v.phase == .readData && decide (v.count.toNat + 1 < v.opLen.toNat)
  | .rxByteReadDataLast _ => v.phase == .readData && decide (v.count.toNat + 1 = v.opLen.toNat)
  | .rxByteAwaitChecksum _ => v.phase == .awaitChecksum
  | .rxError _ => v.phase != .done
  | .rxReserved3 _ => v.phase != .done
  | .txOk => true
  | .txErr _ => true
  | .flushOk => true
  | .flushFail => true

end Sys2Proof
end

