-- ==== Sys2Proof/Decode.lean ====
section
/-! DEFINITION. The decoders of the four ports (30_encoding.md R104, R105, R111, R112, R113), total on every word, and
after them the encoder. Every CMD word, every TxByte answer and every Flush answer decodes; an RxPoll answer is read
together with the parser's registers (the guards of opcode_table.json) and is rejected by name where no row applies. -/

namespace Sys2Proof

/-- Why an answer to RxPoll is no row of the table. Neither can be met by a machine in a state that keeps the invariant
(Sys2Proof.Machine.StateInv). -/
inductive DecodeReject where
  /-- PHASE = Done: the parser issues no RxPoll, so there is nothing to answer (43_resync_parser.md R211). -/
  | pollAfterDone
  /-- PHASE = ReadData with COUNT + 1 > OP_LEN, which R48 (d) rules out: neither R206 nor R207 applies. -/
  | countPastLength
  deriving DecidableEq, Repr

/-- F-CMD (R104): bits [2:0] are the opcode, bits [31:3] are ignored. -/
def decodeCmd (w : Word) : Instr :=
  match w.toNat % 8 with
  | 0 => .cmdReserved0
  | 1 => .init
  | 2 => .sendBreak
  | 3 => .sendWakeup
  | 4 => .sendFrame
  | 5 => .readFrame
  | 6 => .cmdReserved6
  | _ => .cmdReserved7

/-- F-TXANS (R111): `tx_ans` = 0 is Ok (`tx_err` ignored), 1 is Err(`tx_err`). -/
def decodeTx (w : TxWord) : Instr := if w.ans = 0 then .txOk else .txErr w.err

/-- F-FLANS (R113): `flush_ans` = 0 is Ok, 1 is Fail. -/
def decodeFlush (ans : BitVec 1) : Instr := if ans = 0 then .flushOk else .flushFail

/-- `rx_kind` = 1 with `rx_data` = b: the transition of R202 to R208 whose guard holds. -/
def decodeRxByte (v : ParserView) (b : Byte) : Except DecodeReject Instr :=
  match v.phase with
  | .awaitSync => if b = syncByte then .ok (.rxByteAwaitSyncSync b) else .ok (.rxByteAwaitSyncOther b)
  | .awaitId => if b = v.opId then .ok (.rxByteAwaitIdMatch b) else .ok (.rxByteAwaitIdMismatch b)
  | .readData =>
    if v.count.toNat + 1 < v.opLen.toNat then .ok (.rxByteReadDataMore b)
    else if v.count.toNat + 1 = v.opLen.toNat then .ok (.rxByteReadDataLast b)
    else .error .countPastLength
  | .awaitChecksum => .ok (.rxByteAwaitChecksum b)
  | .done => .error .pollAfterDone

/-- F-RXANS (R112): code 0 would-block, 1 a byte, 2 a hard error, 3 reserved. -/
def decodeRx (v : ParserView) (w : RxWord) : Except DecodeReject Instr :=
  if v.phase = .done then .error .pollAfterDone
  else match w.kind.toNat with
    | 0 => .ok .rxWouldBlock
    | 1 => decodeRxByte v w.data
    | 2 => .ok (.rxError w.err)
    | _ => .ok (.rxReserved3 w.err)

/-- The decoder: a word of any port, read beside the parser's registers. -/
def decode (v : ParserView) : PortWord → Except DecodeReject Instr
  | .cmd w => .ok (decodeCmd w)
  | .rx w => decodeRx v w
  | .tx w => .ok (decodeTx w)
  | .flush a => .ok (decodeFlush a)

/-! The encoder. Ignored bits and ignored signals are written as 0. -/

/-- The opcode numbers of R104. -/
def encodeCmd (opcode : BitVec 3) : PortWord := .cmd (opcode.setWidth 32)

/-- An RxPoll answer that carries a byte (R112, code 1). -/
def encodeRxByte (b : Byte) : PortWord := .rx { kind := 1, data := b, err := 0 }

/-- The word of an instruction on its own port (R104, R111, R112, R113). -/
def encode : Instr → PortWord
  | .init => encodeCmd 1
  | .sendBreak => encodeCmd 2
  | .sendWakeup => encodeCmd 3
  | .sendFrame => encodeCmd 4
  | .readFrame => encodeCmd 5
  | .cmdReserved0 => encodeCmd 0
  | .cmdReserved6 => encodeCmd 6
  | .cmdReserved7 => encodeCmd 7
  | .rxWouldBlock => .rx { kind := 0, data := 0, err := 0 }
  | .rxByteAwaitSyncSync b => encodeRxByte b
  | .rxByteAwaitSyncOther b => encodeRxByte b
  | .rxByteAwaitIdMatch b => encodeRxByte b
  | .rxByteAwaitIdMismatch b => encodeRxByte b
  | .rxByteReadDataMore b => encodeRxByte b
  | .rxByteReadDataLast b => encodeRxByte b
  | .rxByteAwaitChecksum b => encodeRxByte b
  | .rxError e => .rx { kind := 2, data := 0, err := e }
  | .rxReserved3 e => .rx { kind := 3, data := 0, err := e }
  | .txOk => .tx { ans := 0, err := 0 }
  | .txErr e => .tx { ans := 1, err := e }
  | .flushOk => .flush 0
  | .flushFail => .flush 1

/-! Words of the opcode table as numbers. A row of the F-CMD format has 32 bits. The rows of the three answer formats
have 1 or 2 bits on separate ports and nothing in the table tells the ports apart, so a number for them is read as an
ANSWER WORD of the model's own (log entry 20): bits [1:0] the answer code, [3:2] the port (0 RX, 1 TX, 2 flush), [7:4]
zero, [15:8] the byte that rides with the answer. The table's own bits of an RX row are therefore read as the table has
them; a TX or flush answer needs its port bits. -/

/-- The port word that an answer word stands for; none where it names no port or no answer of the port. -/
def answerWord (w : Nat) : Option PortWord :=
  let byte : Byte := BitVec.ofNat 8 (w / 256)
  if w / 16 % 16 ≠ 0 then none
  else match w / 4 % 4 with
    | 0 => some (.rx { kind := BitVec.ofNat 2 w, data := byte, err := byte })
    | 1 => if w / 2 % 2 = 0 then some (.tx { ans := BitVec.ofNat 1 w, err := byte }) else none
    | 2 => if w / 2 % 2 = 0 then some (.flush (BitVec.ofNat 1 w)) else none
    | _ => none

/-- The parser's registers as they are right after reset (10_state.md R55), beside which a table word is decoded. -/
def resetView : ParserView := { phase := .awaitSync, opId := 0, opLen := 0, count := 0 }

/-- The instruction the decoder reads from a word of the opcode table: 32 bits are a CMD word, fewer an answer word. -/
def decodeTableWord (nbits w : Nat) : Option Instr :=
  if nbits = 32 then some (decodeCmd (BitVec.ofNat 32 w))
  else match answerWord w with
    | none => none
    | some p => match decode resetView p with
      | .ok i => some i
      | .error _ => none

end Sys2Proof
end

