-- ==== Sys2Proof/Machine/State.lean ====
section
/-! DEFINITION. The state of mcp2003a-FTE as plain data (10_state.md R30, R55) and, beside it, what the step needs of the
environment (R31 calls these inputs and parameters of the steps; the step of this package takes a State alone, so the
host's and the transport's pending inputs stand in `env` and the parameters in `cfg`: log entries 1, 2). The groups
are those of R30's table. -/

namespace Sys2Proof.Machine

/-- A Timing Profile (R34, R35): the nine fields of the staging profile `P_*` or of the active profile `A_*`. -/
structure Profile where
  speed    : BitVec 2
  brkSel   : BitVec 1
  brkExtra : BitVec 8
  wakeSel  : BitVec 2
  wakeNs   : Word
  rtoSel   : BitVec 2
  rtoN     : Word
  ifsSel   : BitVec 2
  ifsN     : Word
  deriving DecidableEq, Repr

/-- The operand registers (R36, R37): OP_ID, OP_LEN, OP_CHK, OP_DATA[0..7]. -/
structure Operands where
  id   : Byte
  len  : BitVec 4
  chk  : Byte
  data : Vector Byte 8
  deriving DecidableEq, Repr

/-- ENG (R41): IDLE 0, BUSY 1, HALTED 2; 3 is never held (U45). -/
inductive Eng where
  | idle | busy | halted
  deriving DecidableEq, Repr

/-- CUR_OP (R42): the opcode of the command under way or last accepted; none (0) after reset. -/
inductive CurOp where
  | none | init | sendBreak | sendWakeup | sendFrame | readFrame
  deriving DecidableEq, Repr

/-- Engine control (R30): ENG, CUR_OP, STEP, TXI, DLY. -/
structure Control where
  eng    : Eng
  curOp  : CurOp
  stepNo : BitVec 5
  txi    : BitVec 4
  dly    : Word
  deriving DecidableEq, Repr

/-- The parser's registers (R44 to R47): PHASE, SYNC_SEEN, COUNT, CHK, RXERR_V, RXERR. -/
structure Parser where
  phase    : Phase
  syncSeen : Bool
  count    : BitVec 4
  chk      : Byte
  rxErrV   : Bool
  rxErr    : Byte
  deriving DecidableEq, Repr

/-- R_CODE (30_encoding.md R115); codes 8 to 14 are never produced (U45). -/
inductive RCode where
  | ok | transportError | writeNotAcknowledged | syncByteNotReceivedBack | idByteNotReceivedBack
  | deviceTimeoutNoResponse | onlyPartialResponse | noChecksumReceived | refused
  deriving DecidableEq, Repr

/-- FATAL_CAUSE (R51, R116). -/
inductive FatalCause where
  | none | dataLengthOutOfRange | wakeupTooLong | durationOverflow
  deriving DecidableEq, Repr

/-- The result registers (R50, R51): DONE, R_CODE, R_COUNT, R_CHK, R_ERR, FATAL, FATAL_CAUSE. -/
structure Result where
  done       : Bool
  code       : RCode
  count      : BitVec 4
  chk        : Byte
  err        : Byte
  fatal      : Bool
  fatalCause : FatalCause
  deriving DecidableEq, Repr

/-- An answer to TxByte (00_scope.md R23). -/
inductive TxAnswer where
  | ok | err (e : Byte)
  deriving DecidableEq, Repr

/-- An answer to Flush (R23). -/
inductive FlushAnswer where
  | ok | fail
  deriving DecidableEq, Repr

/-- An answer to RxPoll (R23). -/
inductive RxAnswer where
  | byte (b : Byte) | wouldBlock | err (e : Byte)
  deriving DecidableEq, Repr

/-- An environment action the engine has performed (R23), with its answer where it has one; a trace (R21) is a list of
them, oldest first. Line and Delay are recorded when they begin, the other three when they are answered. -/
inductive Event where
  | line  (l : Level)
  | delay (n : Word)
  | tx    (b : Byte) (a : TxAnswer)
  | flush (a : FlushAnswer)
  | rx    (a : RxAnswer)
  deriving DecidableEq, Repr

/-- What the world outside does next (log entry 4). The host's statements of R123 (WR, RD, WAIT, and NEW as reset), the
passing of clock periods, and a turn that leaves one action to the engine. -/
inductive Turn where
  /-- `WR a, d`: one register write (R33, R105). -/
  | write (a : BitVec 6) (d : Word)
  /-- `RD a`: one register read (R33). -/
  | read (a : BitVec 6)
  /-- `WAIT`: STATUS is read until DONE = 1 or FATAL = 1 (R123). -/
  | wait
  /-- `rst` is asserted (70_reset_and_hazards.md R290, R296). -/
  | reset
  /-- The engine performs one action before the next turn. -/
  | engine
  /-- k clock periods go by. -/
  | ticks (k : Nat)
  deriving DecidableEq, Repr

/-- The environment as the step meets it: the turns still to come, the answers the transport will give on each port
(oldest first; an empty list is a transport that has not answered yet, R107, R312; after the answers of `rxAns` the receive
port gives those of `rxLoop` over and over, so that a transport that answers for ever is a state too, R311, log entry 28), the trace so far, the clock
periods gone by, and the word on `reg_rdata` (R106), which stays until the next read (log entry 30). None of it is a register of the engine. -/
structure Env where
  turns    : List Turn
  txAns    : List TxWord
  flushAns : List (BitVec 1)
  rxAns    : List RxWord
  rxLoop   : List RxWord
  trace    : List Event
  clock    : Nat
  rdata    : Word
  deriving DecidableEq, Repr

/-- The machine: R30's groups, the parameters, and the environment. -/
structure State where
  cfg      : Config
  staging  : Profile
  active   : Profile
  ops      : Operands
  ctl      : Control
  parser   : Parser
  buf      : Vector Byte 8
  frame    : Vector Byte 11
  frameLen : BitVec 4
  line     : Level
  res      : Result
  env      : Env
  deriving DecidableEq, Repr

/-- Why the machine stops. -/
inductive Fault where
  /-- The engine is HALTED (60_exceptions.md R258) and nothing outside is left to do. Raised by step. SAFE: the spec
  itself says that a halted state is a fault and no final state of a correct run. -/
  | halted (cause : FatalCause)
  /-- The engine is BUSY at a STEP at which its command has no action. Raised by the engine's own move. SAFE: R42 gives
  such a state no meaning, and no state that keeps the invariant StateInv is one. -/
  | noActionAtStep
  deriving DecidableEq, Repr

/-- Why an instruction has no meaning where it stands. -/
inductive Refusal where
  /-- An arm of exec that has no meaning yet. SAFE. -/
  | notModelled (mnemonic : String)
  /-- An answer on a port on which no action is pending (R107). Raised by the meanings of the answers. SAFE: the spec
  says nothing of an answer nobody asked for, and step never gives one. -/
  | answerUnasked
  /-- An RX_BYTE row whose guard does not hold (R202 to R208). Raised by the meanings of those rows. SAFE: the row's rule
  does not apply there, and step never runs it there. -/
  | guardNotMet
  /-- An answer to RxPoll that decodes to no row. Raised by the engine's own move. SAFE: unreachable under StateInv. -/
  | undecodable (why : DecodeReject)
  deriving DecidableEq, Repr

/-- The default profile (40_timing_profile.md R153): 19200, Minimum13Bits, Minimum250Microseconds, Milliseconds(2) by
DEFAULT_RTO_NS (R16), Milliseconds(1); the operands that the selectors leave unused are 0 (R55). -/
def Profile.default (c : Config) : Profile where
  speed := 2
  brkSel := 0
  brkExtra := 0
  wakeSel := 0
  wakeNs := 0
  rtoSel := 2
  rtoN := c.defaultRtoMs
  ifsSel := 2
  ifsN := 1

/-- An environment in which nothing is pending and nothing has happened (log entry 5). -/
def Env.empty : Env where
  turns := []
  txAns := []
  flushAns := []
  rxAns := []
  rxLoop := []
  trace := []
  clock := 0
  rdata := 0

/-- R55 and R290: every register at its reset value, for a given choice of the parameters. -/
def State.resetWith (c : Config) : State where
  cfg := c
  staging := Profile.default c
  active := Profile.default c
  ops := { id := 0, len := 0, chk := 0, data := Vector.replicate 8 0 }
  ctl := { eng := .idle, curOp := .none, stepNo := 0, txi := 0, dly := 0 }
  parser := { phase := .awaitSync, syncSeen := false, count := 0, chk := 0, rxErrV := false, rxErr := 0 }
  buf := Vector.replicate 8 0
  frame := Vector.replicate 11 0
  frameLen := 0
  line := c.idleLevel
  res := { done := false, code := .ok, count := 0, chk := 0, err := 0, fatal := false, fatalCause := .none }
  env := Env.empty

/-- The machine right after reset. -/
def State.reset : State := State.resetWith Config.thisHardware

/-- The registers that the decoder of RxPoll answers reads. -/
def State.view (s : State) : ParserView where
  phase := s.parser.phase
  opId := s.ops.id
  opLen := s.ops.len
  count := s.parser.count

end Sys2Proof.Machine
end

