-- ==== Sys2Proof/Machine/Flags.lean ====
section
/-! DEFINITION. The codes of the enumerations (30_encoding.md R114 to R116, 10_state.md R41, R45) and the words that pack
the live flags: STATUS (R52), RESULT (R53), FATAL_CAUSE (R53). -/

namespace Sys2Proof.Machine

/-- PHASE codes (R45, R114). -/
def phaseCode : Phase → BitVec 3
  | .awaitSync => 0
  | .awaitId => 1
  | .readData => 2
  | .awaitChecksum => 3
  | .done => 4

/-- CUR_OP codes: the opcodes of R104, 0 after reset (R42). -/
def opCode : CurOp → BitVec 3
  | .none => 0
  | .init => 1
  | .sendBreak => 2
  | .sendWakeup => 3
  | .sendFrame => 4
  | .readFrame => 5

/-- ENG codes (R41). -/
def engCode : Eng → BitVec 2
  | .idle => 0
  | .busy => 1
  | .halted => 2

/-- R_CODE codes (R115). -/
def resultCode : RCode → BitVec 4
  | .ok => 0
  | .transportError => 1
  | .writeNotAcknowledged => 2
  | .syncByteNotReceivedBack => 3
  | .idByteNotReceivedBack => 4
  | .deviceTimeoutNoResponse => 5
  | .onlyPartialResponse => 6
  | .noChecksumReceived => 7
  | .refused => 15

/-- FATAL_CAUSE codes (R116). -/
def fatalCode : FatalCause → BitVec 2
  | .none => 0
  | .dataLengthOutOfRange => 1
  | .wakeupTooLong => 2
  | .durationOverflow => 3

/-- STATUS.BUSY (R41, R52). -/
def State.busy (s : State) : Bool := s.ctl.eng == .busy

/-- STATUS.FATAL (R41, R52). -/
def State.isHalted (s : State) : Bool := s.ctl.eng == .halted

/-- STATUS (R52), bit 31 first: 17 zeros, CUR_OP, COUNT, SYNC_SEEN, PHASE, LINE, FATAL, DONE, BUSY. -/
def State.statusWord (s : State) : Word :=
  0#17 ++ opCode s.ctl.curOp ++ s.parser.count ++ BitVec.ofBool s.parser.syncSeen ++ phaseCode s.parser.phase
    ++ s.line ++ BitVec.ofBool s.isHalted ++ BitVec.ofBool s.res.done ++ BitVec.ofBool s.busy

/-- RESULT (R53), bit 31 first: 8 zeros, R_ERR, R_CHK, R_COUNT, R_CODE. -/
def State.resultWord (s : State) : Word := 0#8 ++ s.res.err ++ s.res.chk ++ s.res.count ++ resultCode s.res.code

/-- The FATAL_CAUSE register (R53). -/
def State.fatalCauseWord (s : State) : Word := (fatalCode s.res.fatalCause).setWidth 32

end Sys2Proof.Machine
end

