-- ==== Sys2Proof/Machine/Operands.lean ====
section
/-! DEFINITION. The operand forms (30_encoding.md R117): the durations computed from a profile (40_timing_profile.md R140
to R146, R150) and the frame assembled from the operand registers (42_frame_tx.md R183). Durations are exact natural
numbers (00_scope.md R20); `none` is a duration that is undefined (R145, R150). -/

namespace Sys2Proof.Machine

/-- MAX_DATA (R8). -/
abbrev maxData : Nat := 8

/-- WAKEUP_MAX_NS (R9). -/
abbrev wakeupMaxNs : Nat := 5000000

/-- The speed code's rate in bits per second (R10, R34, R114). -/
def baudRate (speed : BitVec 2) : Nat :=
  match speed.toNat with
  | 0 => 9600
  | 1 => 10400
  | 2 => 19200
  | _ => 20000

/-- `bit_ns` (R140): truncated division. -/
def Profile.bitNs (p : Profile) : Nat := 1000000000 / baudRate p.speed

/-- `break_bits` (R142): 13, or 13 + extra. -/
def Profile.breakBits (p : Profile) : Nat := if p.brkSel = 0 then 13 else 13 + p.brkExtra.toNat

/-- `break_ns` (R143). -/
def Profile.breakNs (p : Profile) : Nat := p.bitNs * p.breakBits

/-- `wake_ns` (R144). The reserved selector 3 names no duration; it never reaches the active profile (R35). -/
def Profile.wakeupNs (p : Profile) : Option Nat :=
  match p.wakeSel.toNat with
  | 0 => some 250000
  | 1 => some 5000000
  | 2 => some p.wakeNs.toNat
  | _ => none

/-- `fits32` (R20). -/
def fits32 (v : Nat) : Bool := decide (v < 4294967296)

/-- An exact product, defined iff it fits 32 bits (R145, R150): never wrapped, clamped or saturated. -/
def product32 (n : Word) (unit : Nat) : Option Nat :=
  if fits32 (n.toNat * unit) then some (n.toNat * unit) else none

/-- The three forms of the response timeout and of the inter-frame space (R145, R146): Zero, Microseconds(n),
Milliseconds(n); the reserved selector 3 names no duration. -/
def policyNs (sel : BitVec 2) (n : Word) : Option Nat :=
  match sel.toNat with
  | 0 => some 0
  | 1 => product32 n 1000
  | 2 => product32 n 1000000
  | _ => none

/-- `rto_ns` (R145). -/
def Profile.rtoNs (p : Profile) : Option Nat := policyNs p.rtoSel p.rtoN

/-- `ifs_ns` (R146). -/
def Profile.ifsNs (p : Profile) : Option Nat := policyNs p.ifsSel p.ifsN

/-- A reserved selector code in the profile, for which INIT is refused (R152, R120). -/
def Profile.hasReservedSelector (p : Profile) : Bool := p.wakeSel == 3 || p.rtoSel == 3 || p.ifsSel == 3

/-- `OP_DATA[i]` (R37). -/
def Operands.dataAt (o : Operands) (i : Nat) : Byte := o.data[i]?.getD 0

/-- The byte of position i of the frame buffer (R101, R183): sync, id, data, checksum, then 0x00. -/
def Operands.frameByte (o : Operands) (i : Nat) : Byte :=
  if i = 0 then syncByte
  else if i = 1 then o.id
  else if i < 2 + o.len.toNat then o.dataAt (i - 2)
  else if i = 2 + o.len.toNat then o.chk
  else 0

/-- The 11-byte frame buffer (R183). -/
def Operands.frameBytes (o : Operands) : Vector Byte 11 :=
  #v[o.frameByte 0, o.frameByte 1, o.frameByte 2, o.frameByte 3, o.frameByte 4, o.frameByte 5, o.frameByte 6,
     o.frameByte 7, o.frameByte 8, o.frameByte 9, o.frameByte 10]

/-- 1 ≤ OP_LEN ≤ 8: test 1 of the precheck (60_exceptions.md R259). -/
def Operands.lengthLegal (o : Operands) : Bool := decide (1 ≤ o.len.toNat ∧ o.len.toNat ≤ maxData)

/-- The clock periods that a delay of n nanoseconds takes: ceil(n / TICK_NS) (70_reset_and_hazards.md R318). -/
def periodsFor (c : Config) (n : Nat) : Nat := (n + c.period - 1) / c.period

end Sys2Proof.Machine
end

