-- ==== Sys2Proof/Machine/Ops.lean ====
section
/-! DEFINITION. The named operations that every meaning is built from: the environment actions (00_scope.md R23), the
endings of a command (R24, R25; 60_exceptions.md R258), reset (70_reset_and_hazards.md R290), the acceptance of a
command (30_encoding.md R105), frame construction (42_frame_tx.md R183), parser initialisation (43_resync_parser.md
R201), and the passing of time (R15, R318). -/

namespace Sys2Proof.Machine

/-! ### Actions -/

/-- An action is entered at the end of the trace (R21). -/
def State.record (s : State) (e : Event) : State := { s with env := { s.env with trace := s.env.trace ++ [e] } }

/-- `Line(l)` (R23): `LINE <- l`, which cannot fail (60_exceptions.md R262). -/
def State.driveLine (s : State) (l : Level) : State := { s with line := l }.record (.line l)

/-- `Delay(n)` begins (R23, 10_state.md R43): `DLY <- n`. -/
def State.loadDelay (s : State) (n : Word) : State := { s with ctl := { s.ctl with dly := n } }.record (.delay n)

/-- `STEP <- k` (R42). -/
def State.setStep (s : State) (k : BitVec 5) : State := { s with ctl := { s.ctl with stepNo := k } }

/-- `TXI <- k` (R43). -/
def State.setTxi (s : State) (k : BitVec 4) : State := { s with ctl := { s.ctl with txi := k } }

/-! ### Endings -/

/-- `complete(code, count, chk, err)` (R24). -/
def State.complete (s : State) (code : RCode) (count : BitVec 4) (chk err : Byte) : State :=
  { s with
    res := { s.res with done := true, code := code, count := count, chk := chk, err := err }
    ctl := { s.ctl with eng := .idle } }

/-- `raise Fatal(cause)` (R25, R258): the one way a command is taken out of service. The cause is saved in FATAL_CAUSE,
FATAL is set, the engine is HALTED, and everything else keeps its value. -/
def State.raiseFatal (s : State) (cause : FatalCause) : State :=
  { s with
    res := { s.res with fatal := true, fatalCause := cause }
    ctl := { s.ctl with eng := .halted } }

/-- Reset (R290, R291, R296), the only way out of HALTED: every register of the engine takes its reset value (R55). The
parameters are not state, and reset does not reach into the environment (R291). -/
def State.resetEngine (s : State) : State := { State.resetWith s.cfg with env := s.env }

/-! ### Acceptance of a command (R105) -/

/-- The old result is dropped: DONE, R_CODE, R_COUNT, R_CHK, R_ERR are cleared (R105, R50). -/
def State.dropResult (s : State) : State :=
  { s with res := { s.res with done := false, code := .ok, count := 0, chk := 0, err := 0 } }

/-- The old result is dropped; `CUR_OP <- op; STEP <- 0; ENG <- BUSY` (R105). -/
def State.accept (s : State) (op : CurOp) : State :=
  { s.dropResult with ctl := { s.ctl with eng := .busy, curOp := op, stepNo := 0 } }

/-- A refused command word (R121): `complete(Refused)` and nothing else changes. -/
def State.refuse (s : State) : State := s.dropResult.complete .refused 0 0 0

/-- A CMD write outside IDLE is ignored (10_state.md R33, R105); in IDLE it does what `f` says. -/
def onIdle (f : State → State) (s : State) : Host.Outcome State Fault Refusal :=
  if s.ctl.eng = .idle then .next (f s) else .next s

/-! ### Frame construction and the parser's registers -/

/-- R183: FRAME, FRAME_LEN; and `TXI <- 0` (R181 STEP 1). -/
def State.buildFrame (s : State) : State :=
  { s with frame := s.ops.frameBytes, frameLen := 3 + s.ops.len }.setTxi 0

/-- `FRAME[TXI]` (R43, R181). -/
def State.frameAtTxi (s : State) : Byte := s.frame[s.ctl.txi.toNat]?.getD 0

/-- Parser initialisation (R201); BUF is not written. -/
def State.initParser (s : State) : State :=
  { s with parser := { phase := .awaitSync, syncSeen := false, count := 0, chk := 0, rxErrV := false, rxErr := 0 } }

/-- The progress classification (R213), first match wins. -/
def State.classify (s : State) : RCode :=
  if s.parser.syncSeen = false then .syncByteNotReceivedBack
  else match s.parser.phase with
    | .awaitSync => .idByteNotReceivedBack
    | .awaitId => .idByteNotReceivedBack
    | .readData => if s.parser.count = 0 then .deviceTimeoutNoResponse else .onlyPartialResponse
    | .awaitChecksum => .noChecksumReceived
    | .done => .ok

/-- Result selection (44_read_frame.md R240): a hard read error wins; else the classification, with COUNT recorded for
OnlyPartialResponse alone and CHK for Ok alone (R50). -/
def State.selectResult (s : State) : State :=
  if s.parser.rxErrV then s.complete .transportError 0 0 s.parser.rxErr
  else match s.classify with
    | .onlyPartialResponse => s.complete .onlyPartialResponse s.parser.count 0 0
    | .ok => s.complete .ok 0 s.parser.chk 0
    | code => s.complete code 0 0 0

/-! ### Time -/

/-- k clock periods go by while no delay is under way. -/
def State.passTime (s : State) (k : Nat) : State := { s with env := { s.env with clock := s.env.clock + k } }

/-- k clock periods of a delay go by (R15, R318): DLY counts down to 0 and no further (R43). -/
def State.elapse (s : State) (k : Nat) : State :=
  { s with
    ctl := { s.ctl with dly := BitVec.ofNat 32 (s.ctl.dly.toNat - k * s.cfg.period) }
    env := { s.env with clock := s.env.clock + k } }

/-- The clock periods that the delay under way still takes. -/
def State.periodsLeft (s : State) : Nat := periodsFor s.cfg s.ctl.dly.toNat

/-- The delay under way is served to its end, never cut short (R23). -/
def State.serveDelay (s : State) : State := s.elapse s.periodsLeft

/-! ### The environment -/

/-- The turns still to come become `ts`. -/
def State.setTurns (s : State) (ts : List Turn) : State := { s with env := { s.env with turns := ts } }

/-- The word on `reg_rdata` becomes `d`. -/
def State.setRdata (s : State) (d : Word) : State := { s with env := { s.env with rdata := d } }

/-- The answers still to come on the transmit port become `l`. -/
def State.setTxAns (s : State) (l : List TxWord) : State := { s with env := { s.env with txAns := l } }

/-- The answers still to come on the flush port become `l`. -/
def State.setFlushAns (s : State) (l : List (BitVec 1)) : State := { s with env := { s.env with flushAns := l } }

/-- The next answer on the receive port and what is left of the list it is from: `rxAns` first, then `rxLoop` over and
over (R107, R311; log entry 28); none where the transport has not answered. -/
def State.rxNext (s : State) : Option (RxWord × List RxWord) :=
  match s.env.rxAns with
  | w :: rest => some (w, rest)
  | [] =>
    match s.env.rxLoop with
    | w :: rest => some (w, rest)
    | [] => none

/-- The answers still to come on the receive port become `l`. -/
def State.setRxAns (s : State) (l : List RxWord) : State := { s with env := { s.env with rxAns := l } }

end Sys2Proof.Machine
end

