-- ==== Sys2Proof/Machine/Sequencer.lean ====
section
/-! DEFINITION. The engine's program counter is (CUR_OP, STEP) (10_state.md R42). This file holds the action list of each
command as its spec table gives it (41_pulse_sequencer.md R160, R162, R166; 42_frame_tx.md R181; 44_read_frame.md R231) and
the two moves over them: an action begins, and the command goes on to its next STEP. The action at STEP begins when STEP
takes its number; it is under way until it ends or is answered (R42, R107; log entry 6). -/

namespace Sys2Proof.Machine

/-- What stands at one STEP of an action list. -/
inductive Action where
  /-- The command has no such STEP. -/
  | none
  /-- Frame construction (R183). -/
  | build
  /-- `Line(l)`. -/
  | line (l : Level)
  /-- `Delay(n)`; `Option.none` is an undefined duration. -/
  | delay (n : Option Nat)
  /-- `TxByte(b)`; `more`: after an Ok answer the same STEP comes again, with the next byte (R181 STEP 6). -/
  | tx (b : Byte) (more : Bool)
  /-- `Flush()`. -/
  | flush
  /-- The parse loop (R212): `RxPoll()` until it stops. -/
  | parse
  /-- `complete(Ok)`. -/
  | finish
  /-- Result selection (R240). -/
  | select
  deriving DecidableEq, Repr

/-- `PULSE(a, r)` (R160): the four actions, numbered from 0. -/
def pulseAction (c : Config) (a r : Option Nat) (k : Nat) : Action :=
  match k with
  | 0 => .line c.assertLevel
  | 1 => .delay a
  | 2 => .line c.idleLevel
  | 3 => .delay r
  | _ => .none

/-- BREAK = PULSE(break_ns, bit_ns) (R162, R163). -/
def breakAction (s : State) (k : Nat) : Action :=
  pulseAction s.cfg (some s.active.breakNs) (some s.active.bitNs) k

/-- The action list of SEND_BREAK (R162). -/
def sendBreakAction (s : State) (k : Nat) : Action :=
  match k with
  | 1 => breakAction s 0
  | 2 => breakAction s 1
  | 3 => breakAction s 2
  | 4 => breakAction s 3
  | 5 => .finish
  | _ => .none

/-- The action list of SEND_WAKEUP (R166): PULSE(wake_ns, wake_ns). -/
def sendWakeupAction (s : State) (k : Nat) : Action :=
  match k with
  | 1 => pulseAction s.cfg s.active.wakeupNs s.active.wakeupNs 0
  | 2 => pulseAction s.cfg s.active.wakeupNs s.active.wakeupNs 1
  | 3 => pulseAction s.cfg s.active.wakeupNs s.active.wakeupNs 2
  | 4 => pulseAction s.cfg s.active.wakeupNs s.active.wakeupNs 3
  | 5 => .finish
  | _ => .none

/-- The action list of SEND_FRAME (R181). -/
def sendFrameAction (s : State) (k : Nat) : Action :=
  match k with
  | 1 => .build
  | 2 => breakAction s 0
  | 3 => breakAction s 1
  | 4 => breakAction s 2
  | 5 => breakAction s 3
  | 6 => .tx s.frameAtTxi (decide (s.ctl.txi.toNat + 1 < s.frameLen.toNat))
  | 7 => .flush
  | 8 => .delay s.active.ifsNs
  | 9 => .finish
  | _ => .none

/-- The action list of READ_FRAME (R231). -/
def readFrameAction (s : State) (k : Nat) : Action :=
  match k with
  | 1 => .delay s.active.ifsNs
  | 2 => breakAction s 0
  | 3 => breakAction s 1
  | 4 => breakAction s 2
  | 5 => breakAction s 3
  | 6 => .tx syncByte false
  | 7 => .tx s.ops.id false
  | 8 => .delay s.active.rtoNs
  | 9 => .parse
  | 10 => .delay s.active.ifsNs
  | 11 => .select
  | _ => .none

/-- The action of the command under way at its STEP (R42); none in IDLE and HALTED. -/
def State.action (s : State) : Action :=
  match s.ctl.eng with
  | .idle => .none
  | .halted => .none
  | .busy =>
    match s.ctl.curOp with
    | .none => .none
    | .init => .none
    | .sendBreak => sendBreakAction s s.ctl.stepNo.toNat
    | .sendWakeup => sendWakeupAction s s.ctl.stepNo.toNat
    | .sendFrame => sendFrameAction s s.ctl.stepNo.toNat
    | .readFrame => readFrameAction s s.ctl.stepNo.toNat

/-- An action begins. A delay loads DLY; the parse loop starts with the parser initialised (R238); TxByte and Flush raise
their request (Machine/Ports.lean) and wait; the two endings end the command. An undefined duration is never replaced by
a value: the command raises Fatal(DurationOverflow) (R150), which the prechecks do before any action. -/
def State.begin (s : State) (a : Action) : State :=
  match a with
  | .none => s
  | .build => s.buildFrame
  | .line l => s.driveLine l
  | .delay (some n) => s.loadDelay (BitVec.ofNat 32 n)
  | .delay Option.none => s.raiseFatal .durationOverflow
  | .tx _ _ => s
  | .flush => s
  | .parse => s.initParser
  | .finish => s.complete .ok 0 0 0
  | .select => s.selectResult

/-- `STEP <- k`, and the action there begins. -/
def State.enterStep (s : State) (k : BitVec 5) : State := (s.setStep k).begin (s.setStep k).action

/-- `STEP <- STEP + 1` (R42), and the action there begins. -/
def State.nextStep (s : State) : State := s.enterStep (s.ctl.stepNo + 1)

/-- An `RxPoll()` is pending: the parse loop is under way and PHASE is not Done (R211, R212). -/
def State.polling (s : State) : Bool := s.action == .parse && s.parser.phase != .done

end Sys2Proof.Machine
end

