-- ==== Sys2Proof/Machine/Answers.lean ====
section
/-! DEFINITION. The answers on the transmit and the flush port (30_encoding.md R111, R113) and what the engine does with
them: SEND_FRAME's write burst and flush (42_frame_tx.md R185, R186, R187), READ_FRAME's header write (44_read_frame.md
R234, R235). An answer that no pending action asked for has no meaning (R107; log entry 8). -/

namespace Sys2Proof.Machine

/-- The answer to the pending `TxByte(b)`: `f b more` of the state. -/
def onTx (f : Byte → Bool → State → State) (s : State) : Host.Outcome State Fault Refusal :=
  match s.action with
  | .tx b more => .next (f b more s)
  | _ => .refused .answerUnasked

/-- The answer to the pending `Flush()`. -/
def onFlush (f : State → State) (s : State) : Host.Outcome State Fault Refusal :=
  match s.action with
  | .flush => .next (f s)
  | _ => .refused .answerUnasked

/-- The transport took byte b (R73): `TXI <- TXI + 1`; the same STEP again while bytes are left, else the next one. -/
def State.txTaken (b : Byte) (more : Bool) (s : State) : State :=
  let t := (s.record (.tx b .ok)).setTxi (s.ctl.txi + 1)
  if more then t else t.nextStep

/-- The transport did not take byte b (R186, R235): the command ends at once, TXI still on that byte. -/
def State.txFailed (e b : Byte) (s : State) : State := (s.record (.tx b (.err e))).complete .transportError 0 0 e

/-- TX_OK (R111; R185, R234). -/
def execTxOk (s : State) : Host.Outcome State Fault Refusal := onTx State.txTaken s

/-- TX_ERR (R111; R186, R235). -/
def execTxErr (e : Byte) (s : State) : Host.Outcome State Fault Refusal := onTx (fun b _ => State.txFailed e b) s

/-- FLUSH_OK (R113, R187): on to the trailing inter-frame space. -/
def execFlushOk (s : State) : Host.Outcome State Fault Refusal :=
  onFlush (fun s => (s.record (.flush .ok)).nextStep) s

/-- FLUSH_FAIL (R113, R187): WriteNotAcknowledged, with no trailing inter-frame space. -/
def execFlushFail (s : State) : Host.Outcome State Fault Refusal :=
  onFlush (fun s => (s.record (.flush .fail)).complete .writeNotAcknowledged 0 0 0) s

end Sys2Proof.Machine
end

