-- ==== Sys2Proof/Machine/FrameTx.lean ====
section
/-! DEFINITION. SEND_FRAME (42_frame_tx.md R181 to R191): its precheck and its acceptance. Its action list is in
Machine/Sequencer.lean, the answers it waits for in Machine/Answers.lean. -/

namespace Sys2Proof.Machine

/-- The precheck of SEND_FRAME (R182, R259): the length, then `ifs_ns`. -/
def precheckSendFrame (s : State) : FatalCause :=
  if s.ops.lengthLegal = false then .dataLengthOutOfRange
  else if s.active.ifsNs = none then .durationOverflow
  else .none

/-- SEND_FRAME (R181): accepted, checked, and the frame built (STEP 1, R183). -/
def execSendFrame (s : State) : Host.Outcome State Fault Refusal :=
  onIdle (fun s =>
    match precheckSendFrame s with
    | .none => (s.accept .sendFrame).enterStep 1
    | cause => (s.accept .sendFrame).raiseFatal cause) s

end Sys2Proof.Machine
end

