-- ==== Sys2Proof/Machine/Parser.lean ====
section
/-! DEFINITION. The resynchronizing parser (43_resync_parser.md): one meaning per answer and transition, R202 to R210.
An answer is met only while an RxPoll is pending (R211, R212); a row of RX_BYTE runs only under its guard. -/

namespace Sys2Proof.Machine

/-- The answer a of the pending `RxPoll()`, for the instruction i whose guard must hold: it is entered in the trace
and `f` is done. -/
def onPoll (i : Instr) (a : RxAnswer) (f : State → State) (s : State) : Host.Outcome State Fault Refusal :=
  if s.polling = false then .refused .answerUnasked
  else if i.wellFormed && i.guard s.view then .next (f (s.record (.rx a)))
  else .refused .guardNotMet

/-- `PHASE <- p`. -/
def State.setPhase (p : Phase) (s : State) : State := { s with parser := { s.parser with phase := p } }

/-- `SYNC_SEEN <- 1; PHASE <- AwaitId` (R202). -/
def State.syncMatched (s : State) : State :=
  { s with parser := { s.parser with syncSeen := true, phase := .awaitId } }

/-- `BUF[COUNT] <- b; COUNT <- COUNT + 1` (R206, R207). -/
def State.copyByte (b : Byte) (s : State) : State :=
  { s with
    buf := s.buf.setIfInBounds s.parser.count.toNat b
    parser := { s.parser with count := s.parser.count + 1 } }

/-- `CHK <- b; PHASE <- Done` (R208). -/
def State.captureChk (b : Byte) (s : State) : State :=
  { s with parser := { s.parser with chk := b, phase := .done } }

/-- `RXERR_V <- 1; RXERR <- e` (R210). -/
def State.readError (e : Byte) (s : State) : State :=
  { s with parser := { s.parser with rxErrV := true, rxErr := e } }

/-- RX_WOULDBLOCK (R209): no register of the parser changes; polling stops. -/
def execRxWouldBlock (s : State) : Host.Outcome State Fault Refusal :=
  onPoll .rxWouldBlock .wouldBlock State.nextStep s

/-- RX_BYTE.AwaitSync.sync (R202): polling goes on. -/
def execRxByteAwaitSyncSync (b : Byte) (s : State) : Host.Outcome State Fault Refusal :=
  onPoll (.rxByteAwaitSyncSync b) (.byte b) State.syncMatched s

/-- RX_BYTE.AwaitSync.other (R203): the byte is discarded; polling goes on. -/
def execRxByteAwaitSyncOther (b : Byte) (s : State) : Host.Outcome State Fault Refusal :=
  onPoll (.rxByteAwaitSyncOther b) (.byte b) id s

/-- RX_BYTE.AwaitId.match (R204): polling goes on. -/
def execRxByteAwaitIdMatch (b : Byte) (s : State) : Host.Outcome State Fault Refusal :=
  onPoll (.rxByteAwaitIdMatch b) (.byte b) (State.setPhase .readData) s

/-- RX_BYTE.AwaitId.mismatch (R205): back to AwaitSync; the byte is not reconsidered; polling goes on. -/
def execRxByteAwaitIdMismatch (b : Byte) (s : State) : Host.Outcome State Fault Refusal :=
  onPoll (.rxByteAwaitIdMismatch b) (.byte b) (State.setPhase .awaitSync) s

/-- RX_BYTE.ReadData.more (R206): polling goes on. -/
def execRxByteReadDataMore (b : Byte) (s : State) : Host.Outcome State Fault Refusal :=
  onPoll (.rxByteReadDataMore b) (.byte b) (State.copyByte b) s

/-- RX_BYTE.ReadData.last (R207): polling goes on. -/
def execRxByteReadDataLast (b : Byte) (s : State) : Host.Outcome State Fault Refusal :=
  onPoll (.rxByteReadDataLast b) (.byte b) (fun s => (s.copyByte b).setPhase .awaitChecksum) s

/-- RX_BYTE.AwaitChecksum (R208): polling stops. -/
def execRxByteAwaitChecksum (b : Byte) (s : State) : Host.Outcome State Fault Refusal :=
  onPoll (.rxByteAwaitChecksum b) (.byte b) (fun s => (s.captureChk b).nextStep) s

/-- RX_ERROR (R210): polling stops. -/
def execRxError (e : Byte) (s : State) : Host.Outcome State Fault Refusal :=
  onPoll (.rxError e) (.err e) (fun s => (s.readError e).nextStep) s

/-- RX_RESERVED_3 (R210, R112): as RX_ERROR. -/
def execRxReserved3 (e : Byte) (s : State) : Host.Outcome State Fault Refusal :=
  onPoll (.rxReserved3 e) (.err e) (fun s => (s.readError e).nextStep) s

end Sys2Proof.Machine
end

