-- ==== Sys2Proof/Machine/Profile.lean ====
section
/-! DEFINITION. INIT (40_timing_profile.md R152): the staging profile becomes the active profile, all nine fields at
once, unless a selector of it is reserved. -/

namespace Sys2Proof.Machine

/-- All nine fields at once (R152, R35). -/
def State.installProfile (s : State) : State := { s with active := s.staging }

/-- INIT (R152). It has no action and takes no time: it is accepted and ends in the same step. -/
def execInit (s : State) : Host.Outcome State Fault Refusal :=
  onIdle (fun s =>
    if s.staging.hasReservedSelector then (s.accept .init).complete .refused 0 0 0
    else (s.accept .init).installProfile.complete .ok 0 0 0) s

end Sys2Proof.Machine
end

