-- ==== Sys2Proof/Machine/Pulse.lean ====
section
/-! DEFINITION. The pulse commands (41_pulse_sequencer.md): SEND_BREAK (R162) and SEND_WAKEUP (R166). The meaning of a
command word is its acceptance, its precheck (STEP 0) and the beginning of its first action; the action list that
follows is Machine/Sequencer.lean's, walked by the engine's moves. -/

namespace Sys2Proof.Machine

/-- SEND_BREAK (R162): no test of the precheck can fail. -/
def execSendBreak (s : State) : Host.Outcome State Fault Refusal :=
  onIdle (fun s => (s.accept .sendBreak).enterStep 1) s

/-- The precheck of SEND_WAKEUP (R166, R259 test 2): `wake_ns` ≤ 5,000,000. The reserved selector, which no active
profile holds (R35), has no duration at all and is the overflow of R150 (log entry 9). -/
def precheckSendWakeup (s : State) : FatalCause :=
  match s.active.wakeupNs with
  | some n => if n ≤ wakeupMaxNs then .none else .wakeupTooLong
  | none => .durationOverflow

/-- SEND_WAKEUP (R166). -/
def execSendWakeup (s : State) : Host.Outcome State Fault Refusal :=
  onIdle (fun s =>
    match precheckSendWakeup s with
    | .none => (s.accept .sendWakeup).enterStep 1
    | cause => (s.accept .sendWakeup).raiseFatal cause) s

end Sys2Proof.Machine
end

