-- ==== Sys2Proof/Machine/ReadFrame.lean ====
section
/-! DEFINITION. READ_FRAME (44_read_frame.md R231 to R243): its precheck and its acceptance. Its action list is in
Machine/Sequencer.lean, the answers it waits for in Machine/Answers.lean and Machine/Parser.lean. -/

namespace Sys2Proof.Machine

/-- The precheck of READ_FRAME (R241, R259): the length, then `ifs_ns` and `rto_ns`. -/
def precheckReadFrame (s : State) : FatalCause :=
  if s.ops.lengthLegal = false then .dataLengthOutOfRange
  else if s.active.ifsNs = none ∨ s.active.rtoNs = none then .durationOverflow
  else .none

/-- READ_FRAME (R231): accepted, checked, and the leading inter-frame space begun (STEP 1, R232). TXI, the index into
the header (R43), starts from 0 (log entry 7). -/
def execReadFrame (s : State) : Host.Outcome State Fault Refusal :=
  onIdle (fun s =>
    match precheckReadFrame s with
    | .none => ((s.accept .readFrame).setTxi 0).enterStep 1
    | cause => (s.accept .readFrame).raiseFatal cause) s

end Sys2Proof.Machine
end

