-- ==== Sys2Proof/Machine/Reserved.lean ====
section
/-! DEFINITION. The reserved opcodes 0, 6 and 7 (30_encoding.md R105, R121): each is refused with result code 15 and
nothing else changes. The refusal is a result that the spec gives the command, so the meaning answers a next state. -/

namespace Sys2Proof.Machine

/-- CMD_RESERVED_0 (R121). -/
def execCmdReserved0 (s : State) : Host.Outcome State Fault Refusal := onIdle State.refuse s

/-- CMD_RESERVED_6 (R121). -/
def execCmdReserved6 (s : State) : Host.Outcome State Fault Refusal := onIdle State.refuse s

/-- CMD_RESERVED_7 (R121). -/
def execCmdReserved7 (s : State) : Host.Outcome State Fault Refusal := onIdle State.refuse s

end Sys2Proof.Machine
end

