-- ==== Sys2Proof/Machine/Dispatch.lean ====
section
/-! DEFINITION. The meaning of every row of spec/opcode_table.json, one arm per constructor of Instr. -/

namespace Sys2Proof.Machine

def exec (i : Instr) (s : State) : Host.Outcome State Fault Refusal :=
  match i with
  | .init => Sys2Proof.Machine.execInit s
  | .sendBreak => Sys2Proof.Machine.execSendBreak s
  | .sendWakeup => Sys2Proof.Machine.execSendWakeup s
  | .sendFrame => Sys2Proof.Machine.execSendFrame s
  | .readFrame => Sys2Proof.Machine.execReadFrame s
  | .cmdReserved0 => Sys2Proof.Machine.execCmdReserved0 s
  | .cmdReserved6 => Sys2Proof.Machine.execCmdReserved6 s
  | .cmdReserved7 => Sys2Proof.Machine.execCmdReserved7 s
  | .rxWouldBlock => Sys2Proof.Machine.execRxWouldBlock s
  | .rxByteAwaitSyncSync b => Sys2Proof.Machine.execRxByteAwaitSyncSync b s
  | .rxByteAwaitSyncOther b => Sys2Proof.Machine.execRxByteAwaitSyncOther b s
  | .rxByteAwaitIdMatch b => Sys2Proof.Machine.execRxByteAwaitIdMatch b s
  | .rxByteAwaitIdMismatch b => Sys2Proof.Machine.execRxByteAwaitIdMismatch b s
  | .rxByteReadDataMore b => Sys2Proof.Machine.execRxByteReadDataMore b s
  | .rxByteReadDataLast b => Sys2Proof.Machine.execRxByteReadDataLast b s
  | .rxByteAwaitChecksum b => Sys2Proof.Machine.execRxByteAwaitChecksum b s
  | .rxError e => Sys2Proof.Machine.execRxError e s
  | .rxReserved3 e => Sys2Proof.Machine.execRxReserved3 e s
  | .txOk => Sys2Proof.Machine.execTxOk s
  | .txErr e => Sys2Proof.Machine.execTxErr e s
  | .flushOk => Sys2Proof.Machine.execFlushOk s
  | .flushFail => Sys2Proof.Machine.execFlushFail s

end Sys2Proof.Machine
end

