-- ==== Sys2Proof/Machine/Registers.lean ====
section
/-! DEFINITION. The register file (10_state.md R32, R33, R56): 64 registers of 32 bits, numbered 0x00 to 0x3F. Reads have
no side effect; writes reach the read-write registers only, and only while ENG = IDLE. A write to CMD (0x0B) is a
command and is carried out by the engine (Machine/Engine.lean), not here. -/

namespace Sys2Proof.Machine

/-- The word of register k of a profile bank, k from 0 to 7 (R34, R35: both banks are laid out alike). -/
def Profile.word (p : Profile) (k : Nat) : Word :=
  match k with
  | 0 => p.speed.setWidth 32
  | 1 => (p.brkSel ++ p.brkExtra).setWidth 32
  | 2 => p.wakeSel.setWidth 32
  | 3 => p.wakeNs
  | 4 => p.rtoSel.setWidth 32
  | 5 => p.rtoN
  | 6 => p.ifsSel.setWidth 32
  | 7 => p.ifsN
  | _ => 0

/-- A byte array's register: `BUF[i]`, `FRAME[i]`, `OP_DATA[i]`, zero-extended (R37, R38, R39). -/
def byteWord {n : Nat} (v : Vector Byte n) (i : Nat) : Word := (v[i]?.getD 0).setWidth 32

/-- `RD a` (R32, R33, R56): the word of register a at this instant. CMD and the reserved numbers read as 0. -/
def State.readReg (s : State) (a : BitVec 6) : Word :=
  let n := a.toNat
  if n < 0x08 then s.staging.word n
  else if n = 0x08 then s.ops.id.setWidth 32
  else if n = 0x09 then s.ops.len.setWidth 32
  else if n = 0x0A then s.ops.chk.setWidth 32
  else if n = 0x0B then 0
  else if n = 0x0C then s.statusWord
  else if n = 0x0D then s.resultWord
  else if n = 0x0E then s.fatalCauseWord
  else if n = 0x0F then s.frameLen.setWidth 32
  else if n < 0x18 then byteWord s.ops.data (n - 0x10)
  else if n < 0x20 then byteWord s.buf (n - 0x18)
  else if n < 0x2B then byteWord s.frame (n - 0x20)
  else if n < 0x33 then s.active.word (n - 0x2B)
  else 0

/-- A write to register k of the staging profile, k from 0 to 7 (R34): the low bits of the word as they are. -/
def Profile.setWord (p : Profile) (k : Nat) (d : Word) : Profile :=
  match k with
  | 0 => { p with speed := d.setWidth 2 }
  | 1 => { p with brkSel := d.extractLsb' 8 1, brkExtra := d.setWidth 8 }
  | 2 => { p with wakeSel := d.setWidth 2 }
  | 3 => { p with wakeNs := d }
  | 4 => { p with rtoSel := d.setWidth 2 }
  | 5 => { p with rtoN := d }
  | 6 => { p with ifsSel := d.setWidth 2 }
  | 7 => { p with ifsN := d }
  | _ => p

/-- What a write stores in IDLE (R32, R34, R36, R37, R56); read-only and reserved registers ignore it. -/
def State.storeReg (s : State) (a : BitVec 6) (d : Word) : State :=
  let n := a.toNat
  if n < 0x08 then { s with staging := s.staging.setWord n d }
  else if n = 0x08 then { s with ops := { s.ops with id := d.setWidth 8 } }
  else if n = 0x09 then { s with ops := { s.ops with len := d.setWidth 4 } }
  else if n = 0x0A then { s with ops := { s.ops with chk := d.setWidth 8 } }
  else if 0x10 ≤ n ∧ n < 0x18 then
    { s with ops := { s.ops with data := s.ops.data.setIfInBounds (n - 0x10) (d.setWidth 8) } }
  else s

/-- A write to a register other than CMD (R33): performed only while ENG = IDLE, else ignored without a trace. -/
def State.writeReg (s : State) (a : BitVec 6) (d : Word) : State :=
  if s.ctl.eng = .idle then s.storeReg a d else s

/-- The number of CMD (R40, R56). -/
def cmdReg : BitVec 6 := 0x0B

/-- The number of STATUS (R52, R56). -/
def statusReg : BitVec 6 := 0x0C

/-- The number of RESULT (R53, R56). -/
def resultReg : BitVec 6 := 0x0D

/-- The number of FRAME_LEN (R39, R56). -/
def frameLenReg : BitVec 6 := 0x0F

end Sys2Proof.Machine
end

