-- ==== Sys2Proof/Machine/Engine.lean ====
section
/-! DEFINITION. What one step is made of: a move of the engine (10_state.md R42, 30_encoding.md R107) or a turn of the
world outside (R123 host statements, reset, clock periods). Fetching stands here too: a command word is fetched from a
host write to CMD, an answer from the port on which the action under way waits. -/

namespace Sys2Proof.Machine

/-- A move of the engine. An action that ends by itself ends and the next one begins (a delay after having been served
in full); an action that is answered takes its answer from its port, or waits where there is none yet (R107, R312). IDLE
and HALTED perform no action (R41, R258). -/
def engineMove (s : State) : Host.Outcome State Fault Refusal :=
  match s.ctl.eng with
  | .idle => .next s
  | .halted => .next s
  | .busy =>
    match s.action with
    | .none => .fault .noActionAtStep
    | .build => .next s.nextStep
    | .line _ => .next s.nextStep
    | .delay _ => .next s.serveDelay.nextStep
    | .tx _ _ =>
      match s.env.txAns with
      | [] => .next s
      | w :: rest => exec (decodeTx w) (s.setTxAns rest)
    | .flush =>
      match s.env.flushAns with
      | [] => .next s
      | a :: rest => exec (decodeFlush a) (s.setFlushAns rest)
    | .parse =>
      if s.parser.phase = .done then .next s.nextStep
      else match s.rxNext with
        | none => .next s
        | some (w, rest) =>
          match decodeRx s.view w with
          | .ok i => exec i (s.setRxAns rest)
          | .error why => .refused (.undecodable why)
    | .finish => .next (s.begin .finish)
    | .select => .next (s.begin .select)

/-- The engine has something to do that takes no time and waits for nothing (R160: Line takes effect at once). -/
def State.instant (s : State) : Bool :=
  match s.action with
  | .build => true
  | .line _ => true
  | .delay _ => s.ctl.dly == 0
  | .finish => true
  | .select => true
  | .none => false
  | .tx _ _ => false
  | .flush => false
  | .parse => false

/-- A delay is under way and not served yet. -/
def State.delaying (s : State) : Bool :=
  match s.action with
  | .delay _ => s.ctl.dly != 0
  | _ => false

/-- `WR a, d` (R33, R105): a write to CMD presents a command word, any other write goes to the register file. -/
def hostWrite (a : BitVec 6) (d : Word) (s : State) : Host.Outcome State Fault Refusal :=
  if a = cmdReg then exec (decodeCmd d) s else .next (s.writeReg a d)

/-- `RD a` (R33): the word appears on `reg_rdata`; nothing else changes. -/
def State.hostRead (s : State) (a : BitVec 6) : State := s.setRdata (s.readReg a)

/-- `WAIT` (R123): one read of STATUS; the turn is over when DONE = 1 or FATAL = 1, else the engine moves on and the
turn stays. `rest` are the turns after it. -/
def waitTurn (s : State) (rest : List Turn) : Host.Outcome State Fault Refusal :=
  if s.res.done || s.isHalted then .next ((s.hostRead statusReg).setTurns rest)
  else engineMove (s.hostRead statusReg)

/-- k clock periods go by (R15, R318). What takes no time comes first; a delay uses up the periods it needs and leaves
the others; in any other state the time simply passes (IDLE, HALTED, an answer that is still out). -/
def ticksTurn (k : Nat) (s : State) (rest : List Turn) : Host.Outcome State Fault Refusal :=
  if s.instant then engineMove s
  else if s.delaying = false then .next ((s.passTime k).setTurns rest)
  else if k ≤ s.periodsLeft then .next ((s.elapse k).setTurns rest)
  else .next (s.serveDelay.setTurns (.ticks (k - s.periodsLeft) :: rest))

/-- One turn of the world outside; `rest` are the turns after it. -/
def turnStep (t : Turn) (rest : List Turn) (s : State) : Host.Outcome State Fault Refusal :=
  match t with
  | .write a d => hostWrite a d (s.setTurns rest)
  | .read a => .next ((s.hostRead a).setTurns rest)
  | .wait => waitTurn s rest
  | .reset => .next (s.resetEngine.setTurns rest)
  | .engine => engineMove (s.setTurns rest)
  | .ticks k => ticksTurn k s rest

/-- With no turn left the engine goes on by itself. A HALTED engine with nothing left outside is a fault: "it is never a
final state of a correct run" (R258). -/
def ownStep (s : State) : Host.Outcome State Fault Refusal :=
  match s.ctl.eng with
  | .halted => .fault (.halted s.res.fatalCause)
  | .idle => engineMove s
  | .busy => engineMove s

/-! ### Placing one instruction where it is fetched next -/

/-- The engine is at STEP k of command op (what an answer needs in order to be fetched). -/
def State.placeAt (s : State) (op : CurOp) (k : BitVec 5) : State :=
  { s with ctl := { s.ctl with eng := .busy, curOp := op, stepNo := k } }

/-- A port word is placed where the very next step fetches it: a CMD word as the host's next write; a TxByte answer at
READ_FRAME's first header byte (STEP 6); a Flush answer at SEND_FRAME's flush (STEP 7); an RxPoll answer at READ_FRAME's
parse loop (STEP 9), in phase AwaitSync, in which the table's words are decoded (log entry 20). -/
def State.placeWord (s : State) (p : PortWord) : State :=
  match p with
  | .cmd w => s.setTurns (.write cmdReg w :: s.env.turns)
  | .tx w => ((s.placeAt .readFrame 6).setTxAns (w :: s.env.txAns)).setTurns (.engine :: s.env.turns)
  | .flush a => ((s.placeAt .sendFrame 7).setFlushAns (a :: s.env.flushAns)).setTurns (.engine :: s.env.turns)
  | .rx w =>
    ((({ s with parser := { s.parser with phase := .awaitSync } } : State).placeAt .readFrame 9).setRxAns
      (w :: s.env.rxAns)).setTurns (.engine :: s.env.turns)

/-- The port word that a word of the opcode table stands for (Sys2Proof.decodeTableWord reads the same one). -/
def tablePortWord (nbits w : Nat) : Option PortWord :=
  if nbits = 32 then some (.cmd (BitVec.ofNat 32 w)) else answerWord w

/-- The table's word placed where it is fetched next; a number that is no word of the table changes nothing. -/
def State.placeTableWord (s : State) (nbits w : Nat) : State :=
  match tablePortWord nbits w with
  | some p => s.placeWord p
  | none => s

end Sys2Proof.Machine
end

