-- ==== Sys2Proof/Machine/HostProgram.lean ====
section
/-! DEFINITION. Host programs (30_encoding.md R123, R124): the statements and pseudo-commands of the spec's host syntax
as lists of turns, and the document's calls as programs over them. What a host reads after a call depends on the words it
has read by then, so those reads are functions of these words. -/

namespace Sys2Proof.Machine

/-- `WR <register>, <value>`. -/
def wr (a : BitVec 6) (d : Word) : List Turn := [.write a d]

/-- `RD <register>`. -/
def rd (a : BitVec 6) : List Turn := [.read a]

/-- `<command>; WAIT`: a CMD write of the opcode, then the wait for its end (R123). -/
def command (opcode : Word) : List Turn := [.write cmdReg opcode, .wait]

/-- `NEW` (R124): reset. -/
def newEngine : List Turn := [.reset]

/-- `SET_PROFILE` (R124): the eight writes that encode the five policies, then `INIT; WAIT`. -/
def setProfile (p : Profile) : List Turn :=
  wr 0x00 (p.word 0) ++ wr 0x01 (p.word 1) ++ wr 0x02 (p.word 2) ++ wr 0x03 (p.word 3) ++ wr 0x04 (p.word 4)
    ++ wr 0x05 (p.word 5) ++ wr 0x06 (p.word 6) ++ wr 0x07 (p.word 7) ++ command 1

/-- `DEFAULT_PROFILE` (R124). -/
def defaultProfile (c : Config) : List Turn := setProfile (Profile.default c)

/-- `send_break()` (R123). -/
def sendBreakCall : List Turn := command 2

/-- `send_wakeup()` (R123). -/
def sendWakeupCall : List Turn := command 3

/-- The writes of the data bytes, `OP_DATA[i]` from i on; the callers give no byte beyond `OP_DATA[7]`. -/
def dataWrites (i : Nat) : List Byte → List Turn
  | [] => []
  | b :: bs => .write (BitVec.ofNat 6 (0x10 + i)) (b.setWidth 32) :: dataWrites (i + 1) bs

/-- `RD` of k registers, from number a on. -/
def rdRange (a k : Nat) : List Turn := (List.range k).map fun i => .read (BitVec.ofNat 6 (a + i))

/-- `send_frame(id, data, checksum)` (R123) up to `RD RESULT`; sendFrameReads are the reads after it. DESIGN CHOICE (log entry
29): with more than 8 data bytes only the first 8 are written, since OP_DATA has no ninth register (R37). -/
def sendFrameCall (id : Byte) (data : List Byte) (chk : Byte) : List Turn :=
  wr 0x08 (id.setWidth 32) ++ wr 0x09 (BitVec.ofNat 32 data.length) ++ dataWrites 0 (data.take maxData) ++ wr 0x0A (chk.setWidth 32)
    ++ command 4 ++ rd resultReg

/-- `read_frame(id, buffer)` (R123) with a buffer of n bytes, up to `RD RESULT`; readFrameReads are the reads after it. For n
beyond the 4 bits of OP_LEN, and for the reads of a position beyond BUF or FRAME, see log entry 29. -/
def readFrameCall (id : Byte) (n : Nat) : List Turn :=
  wr 0x08 (id.setWidth 32) ++ wr 0x09 (BitVec.ofNat 32 n) ++ command 5 ++ rd resultReg

/-! ### What the host reads after a call (R123), by the words of STATUS (read by WAIT) and of RESULT -/

/-- The result is `code`: STATUS.DONE = 1 and RESULT[3:0] is its code (R52, R53). In HALTED DONE is 0, so that no result
is taken for Ok there (R258; log entry 27). -/
def endedWith (code : RCode) (status result : Word) : Bool :=
  status.extractLsb' 1 1 == 1 && result.extractLsb' 0 4 == resultCode code

/-- "on Ok, `RD FRAME_LEN`, `RD FRAME[i]`", for the 3 + n bytes of a frame with n data bytes (R101). -/
def sendFrameReads (status result : Word) (n : Nat) : List Turn :=
  if endedWith .ok status result then rd frameLenReg ++ rdRange 0x20 (3 + n) else []

/-- How many bytes of BUF the host reads back: the buffer's n on Ok, `R_COUNT` on OnlyPartialResponse, else none. -/
def bufReadCount (status result : Word) (n : Nat) : Nat :=
  if endedWith .ok status result then n
  else if endedWith .onlyPartialResponse status result then (result.extractLsb' 4 4).toNat
  else 0

/-- "`RD BUF[i]` for i below `buffer.length` (on Ok) or below `R_COUNT` (on OnlyPartialResponse)". -/
def readFrameReads (status result : Word) (n : Nat) : List Turn := rdRange 0x18 (bufReadCount status result n)

end Sys2Proof.Machine
end

