-- ==== Sys2Proof/Machine/Ports.lean ====
section
/-! DEFINITION. The output ports of the block (30_encoding.md R106, 60_exceptions.md R265, R268) as functions of the
state: the spec makes the list normative in what each port carries, not in its cycle-level handshake. -/

namespace Sys2Proof.Machine

/-- The output ports of R106. -/
structure OutPorts where
  regRdata : Word
  lineOut  : Level
  done     : Bool
  txValid  : Bool
  txData   : Byte
  flushReq : Bool
  rxPoll   : Bool
  deriving DecidableEq, Repr

/-- The byte of the pending `TxByte` (R107). -/
def State.txPending (s : State) : Option Byte :=
  match s.action with
  | .tx b _ => some b
  | _ => none

/-- What the output ports carry; `tx_data` is 0 while no `TxByte` is pending (log entry 11). DESIGN CHOICE (log entry 30):
`reg_rdata` keeps the word last read while no read is under way. -/
def State.ports (s : State) : OutPorts where
  regRdata := s.env.rdata
  lineOut := s.line
  done := s.res.done
  txValid := s.txPending.isSome
  txData := s.txPending.getD 0
  flushReq := s.action == .flush
  rxPoll := s.polling

/-- The TX stream (20_memory.md R72): the bytes handed over so far, in order; a byte answered Err was not taken. -/
def txStream (tr : List Event) : List Byte :=
  tr.filterMap fun e => match e with
    | .tx b .ok => some b
    | _ => none

/-- The bytes taken from the RX stream so far, in order (R74). -/
def rxStream (tr : List Event) : List Byte :=
  tr.filterMap fun e => match e with
    | .rx (.byte b) => some b
    | _ => none

/-- The answers of a transport that holds the bytes bs and is silent after them (R74; 95_test_vectors.md section 0). -/
def silentAfter (bs : List Byte) : List RxWord :=
  bs.map (fun b => { kind := 1, data := b, err := 0 }) ++ [{ kind := 0, data := 0, err := 0 }]

/-- The answers of a transport that holds the bytes bs, of which no more than bs are polled. -/
def byteAnswers (bs : List Byte) : List RxWord := bs.map fun b => { kind := 1, data := b, err := 0 }

end Sys2Proof.Machine
end

