-- ==== Sys2Proof/Safety.lean ====
section
/-! DEFINITION. What counts as a good state, in the terms the statements use: the invariants that the spec gives the
machine (10_state.md R35, R48, R50; 41_pulse_sequencer.md R161; 60_exceptions.md R258, R267), gathered in StateInv. Each part
is decidable, so that a concrete state can be checked. -/

namespace Sys2Proof.Machine

/-- A run is safe as long as the engine is not HALTED (R258: a halted state is a fault). -/
abbrev Safe (s : State) : Prop := s.ctl.eng ≠ .halted

/-- The STEPs at which a command can be found under way: each of its list but the last, which ends it (R42, R162, R166,
R181, R231). -/
def stepLegal (op : CurOp) (k : Nat) : Bool :=
  match op with
  | .none => false
  | .init => false
  | .sendBreak => decide (1 ≤ k ∧ k ≤ 4)
  | .sendWakeup => decide (1 ≤ k ∧ k ≤ 4)
  | .sendFrame => decide (1 ≤ k ∧ k ≤ 8)
  | .readFrame => decide (1 ≤ k ∧ k ≤ 10)

/-- The STEPs of the asserted interval of a command's pulse: from Line(ASSERT_LEVEL) to the end of the delay after it. -/
def lineAsserted (op : CurOp) (k : Nat) : Bool :=
  match op with
  | .none => false
  | .init => false
  | .sendBreak => decide (k = 1 ∨ k = 2)
  | .sendWakeup => decide (k = 1 ∨ k = 2)
  | .sendFrame => decide (k = 2 ∨ k = 3)
  | .readFrame => decide (k = 2 ∨ k = 3)

/-- The precheck of the command under way (R259). -/
def State.precheck (s : State) : FatalCause :=
  match s.ctl.curOp with
  | .none => .none
  | .init => .none
  | .sendBreak => .none
  | .sendWakeup => precheckSendWakeup s
  | .sendFrame => precheckSendFrame s
  | .readFrame => precheckReadFrame s

/-- The length of the delay under way; 0 where none is. -/
def State.delayUnderWay (s : State) : Nat :=
  match s.action with
  | .delay (some n) => n
  | _ => 0

/-- The index that READ_FRAME's STEP leaves in TXI: 0 up to the first header byte, 1 at the second, 2 after (R43). -/
def headerIndex (k : Nat) : BitVec 4 := if k ≤ 6 then 0 else if k = 7 then 1 else 2

/-- R35: the active profile never holds a reserved selector code. -/
abbrev ActiveLegal (s : State) : Prop := s.active.hasReservedSelector = false

/-- R42: a BUSY engine stands at a STEP of a command, and that command's precheck has passed (R259). -/
abbrev ControlLegal (s : State) : Prop :=
  s.ctl.eng = .busy → stepLegal s.ctl.curOp s.ctl.stepNo.toNat = true ∧ s.precheck = .none

/-- R161: the line is at the asserted level exactly during the asserted interval of a pulse, else at the idle level. -/
abbrev LineLegal (s : State) : Prop :=
  s.line = if s.ctl.eng = .busy ∧ lineAsserted s.ctl.curOp s.ctl.stepNo.toNat = true then s.cfg.assertLevel
    else s.cfg.idleLevel

/-- R48 (a), (b), (c) and COUNT ≤ 8 (R80): what holds of the parser's registers at all times. -/
abbrev ParserLegal (s : State) : Prop :=
  (s.parser.syncSeen = false → s.parser.phase = .awaitSync) ∧
  (s.parser.phase = .awaitSync ∨ s.parser.phase = .awaitId → s.parser.count = 0) ∧
  s.parser.count.toNat ≤ maxData

/-- R48 (d), (e): what holds of COUNT beside OP_LEN from the parse on, until the command ends; and a parse loop that is
still under way is not Done (R211). -/
abbrev ParseLegal (s : State) : Prop :=
  s.ctl.eng = .busy → s.ctl.curOp = .readFrame → 9 ≤ s.ctl.stepNo.toNat →
    (s.parser.phase = .readData → s.parser.count.toNat < s.ops.len.toNat) ∧
    (s.parser.phase = .awaitChecksum ∨ s.parser.phase = .done → s.parser.count = s.ops.len) ∧
    (s.ctl.stepNo = 9 → s.parser.phase ≠ .done)

/-- R50, R51, R105, R258: a result stands only in IDLE and is cleared outside it; FATAL and its cause stand exactly in HALTED; each payload stands only
with its own code. -/
abbrev ResultLegal (s : State) : Prop :=
  (s.ctl.eng ≠ .idle → s.res.done = false ∧ s.res.code = .ok ∧ s.res.count = 0 ∧ s.res.chk = 0 ∧ s.res.err = 0) ∧
  (s.res.fatal = true ↔ s.ctl.eng = .halted) ∧
  (s.res.fatalCause ≠ .none ↔ s.ctl.eng = .halted) ∧
  (s.res.count ≠ 0 → s.res.code = .onlyPartialResponse) ∧
  (s.res.chk ≠ 0 → s.res.code = .ok) ∧
  (s.res.err ≠ 0 → s.res.code = .transportError)

/-- R267: DLY is 0 between delays, and never more than the delay under way. -/
abbrev DelayLegal (s : State) : Prop := s.ctl.dly.toNat ≤ s.delayUnderWay

/-- R183, R43: during SEND_FRAME the frame buffer holds the frame of the operands, and TXI is within it until the burst
is over; during READ_FRAME TXI is the index into the header. -/
abbrev FrameLegal (s : State) : Prop :=
  (s.ctl.eng = .busy → s.ctl.curOp = .sendFrame →
    s.frame = s.ops.frameBytes ∧ s.frameLen = 3 + s.ops.len ∧
    (s.ctl.stepNo.toNat ≤ 6 → s.ctl.txi.toNat < s.frameLen.toNat)) ∧
  (s.ctl.eng = .busy → s.ctl.curOp = .readFrame → s.ctl.txi = headerIndex s.ctl.stepNo.toNat)

/-- The invariant of the machine. -/
abbrev StateInv (s : State) : Prop :=
  ActiveLegal s ∧ ControlLegal s ∧ LineLegal s ∧ ParserLegal s ∧ ParseLegal s ∧ ResultLegal s ∧ DelayLegal s ∧
    FrameLegal s

/-! ### What a byte stream means to a READ_FRAME, said of the list of bytes alone (43_resync_parser.md R202 to R213) -/

/-- The bytes that follow the first header `0x55, id` which the scan accepts: a byte that is not 0x55 is passed over, and
after a 0x55 the next byte either is the id or is dropped together with it (R202 to R205). -/
def headerTail (id : Byte) : List Byte → Option (List Byte)
  | [] => none
  | [_] => none
  | b :: x :: r =>
    if b ≠ syncByte then headerTail id (x :: r)
    else if x = id then some r
    else headerTail id r

/-- The data bytes that a READ_FRAME of n bytes copies from the stream (R206, R207). -/
def streamData (id : Byte) (n : Nat) (bs : List Byte) : List Byte := ((headerTail id bs).getD []).take n

/-- The outcome (R_CODE, R_COUNT, R_CHK) of a READ_FRAME of n bytes over a stream that is silent after bs (R213). -/
def streamOutcome (id : Byte) (n : Nat) (bs : List Byte) : RCode × BitVec 4 × Byte :=
  match headerTail id bs with
  | none => (if syncByte ∈ bs then .idByteNotReceivedBack else .syncByteNotReceivedBack, 0, 0)
  | some d =>
    if d.length = 0 then (.deviceTimeoutNoResponse, 0, 0)
    else if d.length < n then (.onlyPartialResponse, BitVec.ofNat 4 d.length, 0)
    else if d.length = n then (.noChecksumReceived, 0, 0)
    else (.ok, 0, d.getD n 0)

end Sys2Proof.Machine
end

