-- ==== Sys2Proof/Certificates/Slice0/Obligations.lean ====
section
/-! DEFINITION. The statements for the provers, from the numbered rules of spec/. A statement that gives exec's or step's
next state as an equation gives its frame with it: every field the equation does not name is that of the state before. -/

open Sys2Proof Sys2Proof.Machine

/-! ### Encoding -/

/-- Decoding an encoded instruction gives it back, with every byte operand, in every parser state in which the row's
guard holds (30_encoding.md sections 2 and 4, opcode_table.json). -/
def Obligations.DecodeOfEncodeIsTheInstruction : Prop :=
  ∀ (v : ParserView) (i : Instr), i.wellFormed = true → i.guard v = true → decode v (encode i) = .ok i

/-- 30_encoding.md section 2: the low three bits of a CMD word are the opcode, and bits [31:3] are ignored. -/
def Obligations.CommandWordLowBitsDecide : Prop :=
  ∀ w : Word,
    (w.extractLsb' 0 3 = 0 → decodeCmd w = .cmdReserved0) ∧ (w.extractLsb' 0 3 = 1 → decodeCmd w = .init) ∧
    (w.extractLsb' 0 3 = 2 → decodeCmd w = .sendBreak) ∧ (w.extractLsb' 0 3 = 3 → decodeCmd w = .sendWakeup) ∧
    (w.extractLsb' 0 3 = 4 → decodeCmd w = .sendFrame) ∧ (w.extractLsb' 0 3 = 5 → decodeCmd w = .readFrame) ∧
    (w.extractLsb' 0 3 = 6 → decodeCmd w = .cmdReserved6) ∧ (w.extractLsb' 0 3 = 7 → decodeCmd w = .cmdReserved7)

/-- Sample words of every format, written out from the encodings of 30_encoding.md sections 2 and 4. -/
def Obligations.SampleWordsDecode : Prop :=
  decodeCmd 0b001#32 = .init ∧ decodeCmd 0xFFFFFFFA#32 = .sendBreak ∧ decodeCmd 0b101#32 = .readFrame ∧
  decodeCmd 0x00000008#32 = .cmdReserved0 ∧
  decodeTx { ans := 0b1, err := 0x0E } = .txErr 0x0E ∧ decodeTx { ans := 0b0, err := 0x0E } = .txOk ∧
  decodeFlush 0b1 = .flushFail ∧
  decodeRx { phase := .awaitId, opId := 0x3C, opLen := 2, count := 0 } { kind := 0b01, data := 0x3C, err := 0 }
    = .ok (.rxByteAwaitIdMatch 0x3C) ∧
  decodeRx { phase := .readData, opId := 0x3C, opLen := 2, count := 1 } { kind := 0b01, data := 0x55, err := 0 }
    = .ok (.rxByteReadDataLast 0x55) ∧
  decodeRx { phase := .awaitSync, opId := 0x3C, opLen := 2, count := 0 } { kind := 0b11, data := 0, err := 0x11 }
    = .ok (.rxReserved3 0x11)

/-- 43_resync_parser.md section 4 (an inference the spec marks as derived): for every phase but Done and every answer to
RxPoll exactly one row of the table applies, and the decoder gives that row. The premise on ReadData is R48 (d). -/
def Obligations.ExactlyOneRowPerAnswer : Prop :=
  ∀ (v : ParserView) (w : RxWord), v.phase ≠ .done → (v.phase = .readData → v.count.toNat < v.opLen.toNat) →
    ∃ i, decodeRx v w = .ok i ∧ i.wellFormed = true ∧ i.guard v = true ∧
      (w.kind = 1 → encode i = .rx { kind := 1, data := w.data, err := 0 }) ∧
      (w.kind ≠ 1 → w.kind ≠ 0 → encode i = .rx { kind := w.kind, data := 0, err := w.err }) ∧
      (w.kind = 0 → encode i = .rx { kind := 0, data := 0, err := 0 }) ∧
      ∀ j, j.wellFormed = true → j.guard v = true → encode j = encode i → j = i

/-! ### A step runs the instruction that is fetched -/

/-- What a step fetches it runs: a host write to CMD runs the decoded command word; while the action under way is a
TxByte, a Flush or an RxPoll and no turn of the outside comes first, the next answer on that port is taken and the
instruction it decodes to is run. (That the receive port goes on with its repeated answers is log entry 28.) -/
def Obligations.StepRunsTheFetchedInstruction : Prop :=
  ∀ s : State,
    (∀ w rest, s.env.turns = .write 0x0B w :: rest → step s = exec (decodeCmd w) (s.setTurns rest)) ∧
    (s.env.turns = [] → ∀ b more w rest, s.action = .tx b more → s.env.txAns = w :: rest →
      step s = exec (decodeTx w) (s.setTxAns rest)) ∧
    (s.env.turns = [] → ∀ a rest, s.action = .flush → s.env.flushAns = a :: rest →
      step s = exec (decodeFlush a) (s.setFlushAns rest)) ∧
    (s.env.turns = [] → ∀ w rest i, s.polling = true → s.env.rxAns = w :: rest → decodeRx s.view w = .ok i →
      step s = exec i (s.setRxAns rest)) ∧
    (s.env.turns = [] → ∀ w rest i, s.polling = true → s.env.rxAns = [] → s.env.rxLoop = w :: rest →
      decodeRx s.view w = .ok i → step s = exec i (s.setRxAns rest))

/-- A word placed by withFetchWord is what the very next step runs, and decodeTableWord reads the same instruction from it:
a CMD word in any state; an RX answer of kind k with byte b at the parse loop, in phase AwaitSync; a TX answer a with
byte b at READ_FRAME's first header byte; a flush answer a at SEND_FRAME's flush. The packing of an answer word and the
place it is put are the model's own (log entry 20). -/
def Obligations.PlacedWordIsRunNext : Prop :=
  ∀ (s : State) (w : Nat) (k : BitVec 2) (a : BitVec 1) (b : Byte),
    decodeTableWord 32 w = some (decodeCmd (BitVec.ofNat 32 w)) ∧
    step (s.withFetchWord 32 w) = exec (decodeCmd (BitVec.ofNat 32 w)) s ∧
    (∃ i, decodeRx { s.view with phase := .awaitSync } { kind := k, data := b, err := b } = .ok i ∧
      decodeTableWord 8 (k.toNat + 256 * b.toNat) = some i ∧
      step (s.withFetchWord 8 (k.toNat + 256 * b.toNat)) = exec i { s with
        ctl := { s.ctl with eng := .busy, curOp := .readFrame, stepNo := 9 }
        parser := { s.parser with phase := .awaitSync } }) ∧
    decodeTableWord 8 (a.toNat + 4 + 256 * b.toNat) = some (decodeTx { ans := a, err := b }) ∧
    step (s.withFetchWord 8 (a.toNat + 4 + 256 * b.toNat)) = exec (decodeTx { ans := a, err := b }) { s with
      ctl := { s.ctl with eng := .busy, curOp := .readFrame, stepNo := 6 } } ∧
    decodeTableWord 8 (a.toNat + 8) = some (decodeFlush a) ∧
    step (s.withFetchWord 8 (a.toNat + 8)) = exec (decodeFlush a) { s with
      ctl := { s.ctl with eng := .busy, curOp := .sendFrame, stepNo := 7 } }

/-! ### Reset -/

/-- 10_state.md section 9: the value of every register right after reset. That FATAL is 0, which the table there does not
list, is read from 70_reset_and_hazards.md section 1 (log entry 24); the values of the parameters are log entry 17. -/
def Obligations.ResetRegisterValues : Prop :=
  State.reset.staging = { speed := 2, brkSel := 0, brkExtra := 0, wakeSel := 0, wakeNs := 0, rtoSel := 2, rtoN := 2, ifsSel := 2, ifsN := 1 } ∧
  State.reset.active = State.reset.staging ∧
  State.reset.ops.id = 0 ∧ State.reset.ops.len = 0 ∧ State.reset.ops.chk = 0 ∧
  (∀ i : Fin 8, State.reset.ops.data[i] = 0) ∧
  State.reset.ctl = { eng := .idle, curOp := .none, stepNo := 0, txi := 0, dly := 0 } ∧
  State.reset.parser = { phase := .awaitSync, syncSeen := false, count := 0, chk := 0, rxErrV := false, rxErr := 0 } ∧
  (∀ i : Fin 8, State.reset.buf[i] = 0) ∧ (∀ i : Fin 11, State.reset.frame[i] = 0) ∧ State.reset.frameLen = 0 ∧
  State.reset.cfg.assertLevel = 1 ∧ State.reset.line = 0 ∧ (∀ c : Config, (State.resetWith c).line = c.idleLevel) ∧
  State.reset.res = { done := false, code := .ok, count := 0, chk := 0, err := 0, fatal := false, fatalCause := .none }

/-- Reset in any state, BUSY and HALTED included (70_reset_and_hazards.md section 1): every register takes its reset
value, no result is produced, and the environment keeps its bytes. (That the trace, the clock count and the word on
reg_rdata stay through reset is the model's reading, log entry 14.) -/
def Obligations.ResetFromAnyState : Prop :=
  ∀ (s : State) (rest : List Turn), s.env.turns = .reset :: rest →
    step s = .next { State.resetWith s.cfg with env := { s.env with turns := rest } }

/-- 60_exceptions.md section 2: in HALTED no turn of the outside but reset changes anything but the environment's own
record (the turn itself, the word read, the clock); with nothing left outside the halted state is a fault (log entry 10). -/
def Obligations.OnlyResetLeavesHalted : Prop :=
  ∀ s : State, s.ctl.eng = .halted →
    (s.env.turns = [] → step s = .fault (.halted s.res.fatalCause)) ∧
    (∀ t rest, s.env.turns = t :: rest → t ≠ .reset →
      ∃ u, step s = .next u ∧ u = { s with env := u.env } ∧ u.env.turns = rest ∧ u.env.trace = s.env.trace ∧
        u.env.txAns = s.env.txAns ∧ u.env.flushAns = s.env.flushAns ∧ u.env.rxAns = s.env.rxAns ∧ u.env.rxLoop = s.env.rxLoop)

/-! ### The register file -/

/-- R33: a read is allowed at any time, has no side effect and returns the register's value at that instant; a write is
performed only in IDLE and is ignored in BUSY and HALTED, CMD included; a write to a read-only register is ignored in
every state. -/
def Obligations.RegisterAccessRule : Prop :=
  ∀ (s : State) (a : BitVec 6) (d : Word) (rest : List Turn),
    (s.env.turns = .read a :: rest →
      step s = .next { s with env := { s.env with turns := rest, rdata := s.readReg a } }) ∧
    (s.env.turns = .write a d :: rest → s.ctl.eng ≠ .idle →
      step s = .next { s with env := { s.env with turns := rest } }) ∧
    (s.env.turns = .write a d :: rest → s.ctl.eng = .idle → a ≠ 0x0B → step s = .next ((s.setTurns rest).storeReg a d)) ∧
    (s.env.turns = .write a d :: rest → (0x0C ≤ a.toNat ∧ a.toNat ≤ 0x0F) ∨ 0x18 ≤ a.toNat →
      step s = .next { s with env := { s.env with turns := rest } })

/-- 10_state.md section 2: a field sits at the low end of its register, the bits above it read as 0 and ignore writes, a write reaches its
own register alone, and the numbers 0x33 to 0x3F read as 0 and ignore writes. -/
def Obligations.RegisterWriteThenRead : Prop :=
  ∀ (s : State) (a b : BitVec 6) (d : Word),
    (a = 0x00 ∨ a = 0x02 ∨ a = 0x04 ∨ a = 0x06 → (s.storeReg a d).readReg a = d &&& 0x3) ∧
    (a = 0x01 → (s.storeReg a d).readReg a = d &&& 0x1FF) ∧
    (a = 0x03 ∨ a = 0x05 ∨ a = 0x07 → (s.storeReg a d).readReg a = d) ∧
    (a = 0x08 ∨ a = 0x0A ∨ (0x10 ≤ a.toNat ∧ a.toNat ≤ 0x17) → (s.storeReg a d).readReg a = d &&& 0xFF) ∧
    (a = 0x09 → (s.storeReg a d).readReg a = d &&& 0xF) ∧
    (b ≠ a → (s.storeReg a d).readReg b = s.readReg b) ∧
    (0x33 ≤ a.toNat → s.readReg a = 0 ∧ s.storeReg a d = s)

/-- 10_state.md section 10: what each of the 64 register numbers reads as: its field at the low end of the word and zeros
above; CMD and the reserved numbers read as 0. -/
def Obligations.RegisterMapReads : Prop :=
  ∀ s : State,
    s.readReg 0x00 = s.staging.speed.setWidth 32 ∧ s.readReg 0x01 = (s.staging.brkSel ++ s.staging.brkExtra).setWidth 32 ∧
    s.readReg 0x02 = s.staging.wakeSel.setWidth 32 ∧ s.readReg 0x03 = s.staging.wakeNs ∧
    s.readReg 0x04 = s.staging.rtoSel.setWidth 32 ∧ s.readReg 0x05 = s.staging.rtoN ∧
    s.readReg 0x06 = s.staging.ifsSel.setWidth 32 ∧ s.readReg 0x07 = s.staging.ifsN ∧
    s.readReg 0x08 = s.ops.id.setWidth 32 ∧ s.readReg 0x09 = s.ops.len.setWidth 32 ∧
    s.readReg 0x0A = s.ops.chk.setWidth 32 ∧ s.readReg 0x0B = 0 ∧ s.readReg 0x0C = s.statusWord ∧
    s.readReg 0x0D = s.resultWord ∧ s.readReg 0x0E = (fatalCode s.res.fatalCause).setWidth 32 ∧
    s.readReg 0x0F = s.frameLen.setWidth 32 ∧
    (∀ i : Fin 8, s.readReg (BitVec.ofNat 6 (0x10 + i.val)) = s.ops.data[i].setWidth 32) ∧
    (∀ i : Fin 8, s.readReg (BitVec.ofNat 6 (0x18 + i.val)) = s.buf[i].setWidth 32) ∧
    (∀ i : Fin 11, s.readReg (BitVec.ofNat 6 (0x20 + i.val)) = s.frame[i].setWidth 32) ∧
    s.readReg 0x2B = s.active.speed.setWidth 32 ∧ s.readReg 0x2C = (s.active.brkSel ++ s.active.brkExtra).setWidth 32 ∧
    s.readReg 0x2D = s.active.wakeSel.setWidth 32 ∧ s.readReg 0x2E = s.active.wakeNs ∧
    s.readReg 0x2F = s.active.rtoSel.setWidth 32 ∧ s.readReg 0x30 = s.active.rtoN ∧
    s.readReg 0x31 = s.active.ifsSel.setWidth 32 ∧ s.readReg 0x32 = s.active.ifsN ∧
    (∀ i : Fin 13, s.readReg (BitVec.ofNat 6 (0x33 + i.val)) = 0)

/-- R52: the layout of STATUS; and the numbers of the phases (10_state.md section 6, codes 0 to 4) and of the commands
(30_encoding.md section 2, opcodes 1 to 5, and 0 after reset) that its fields hold. -/
def Obligations.StatusWordLayout : Prop :=
  ∀ s : State,
    s.readReg 0x0C = s.statusWord ∧
    (s.statusWord.extractLsb' 0 1 = 1 ↔ s.ctl.eng = .busy) ∧ (s.statusWord.extractLsb' 1 1 = 1 ↔ s.res.done = true) ∧
    (s.statusWord.extractLsb' 2 1 = 1 ↔ s.ctl.eng = .halted) ∧ s.statusWord.extractLsb' 3 1 = s.line ∧
    s.statusWord.extractLsb' 4 3 = phaseCode s.parser.phase ∧
    (s.statusWord.extractLsb' 7 1 = 1 ↔ s.parser.syncSeen = true) ∧ s.statusWord.extractLsb' 8 4 = s.parser.count ∧
    s.statusWord.extractLsb' 12 3 = opCode s.ctl.curOp ∧ s.statusWord.extractLsb' 15 17 = 0 ∧
    phaseCode .awaitSync = 0 ∧ phaseCode .awaitId = 1 ∧ phaseCode .readData = 2 ∧ phaseCode .awaitChecksum = 3 ∧
    phaseCode .done = 4 ∧ opCode .none = 0 ∧ opCode .init = 1 ∧ opCode .sendBreak = 2 ∧ opCode .sendWakeup = 3 ∧
    opCode .sendFrame = 4 ∧ opCode .readFrame = 5

/-- R53: the layout of RESULT and of FATAL_CAUSE; and the numbers of the results (codes 0 to 7 and 15) and of the causes
(0 to 3) that their fields hold (30_encoding.md section 5). -/
def Obligations.ResultWordLayout : Prop :=
  ∀ s : State,
    s.readReg 0x0D = s.resultWord ∧ s.resultWord.extractLsb' 0 4 = resultCode s.res.code ∧
    s.resultWord.extractLsb' 4 4 = s.res.count ∧ s.resultWord.extractLsb' 8 8 = s.res.chk ∧
    s.resultWord.extractLsb' 16 8 = s.res.err ∧ s.resultWord.extractLsb' 24 8 = 0 ∧
    (s.readReg 0x0E).extractLsb' 0 2 = fatalCode s.res.fatalCause ∧ (s.readReg 0x0E).extractLsb' 2 30 = 0 ∧
    resultCode .ok = 0 ∧ resultCode .transportError = 1 ∧ resultCode .writeNotAcknowledged = 2 ∧
    resultCode .syncByteNotReceivedBack = 3 ∧ resultCode .idByteNotReceivedBack = 4 ∧
    resultCode .deviceTimeoutNoResponse = 5 ∧ resultCode .onlyPartialResponse = 6 ∧ resultCode .noChecksumReceived = 7 ∧
    resultCode .refused = 15 ∧ fatalCode .none = 0 ∧ fatalCode .dataLengthOutOfRange = 1 ∧
    fatalCode .wakeupTooLong = 2 ∧ fatalCode .durationOverflow = 3

/-- 30_encoding.md section 9: SET_PROFILE, from IDLE, leaves both profiles equal to the one written, with result Ok; a
profile with a reserved selector leaves the active profile as it was, with result Refused. (That it is ten steps, one
for each write and one for the WAIT, is the model's grain: log entries 4, 6, 26.) -/
def Obligations.SetProfileInstalls : Prop :=
  ∀ (s : State) (p : Profile) (rest : List Turn), s.ctl.eng = .idle → s.env.turns = setProfile p ++ rest →
    ∃ u, Host.Core.run Sys2Proof.core 10 s = .next u ∧ u.env.turns = rest ∧ u.staging = p ∧ u.ctl.eng = .idle ∧
      u.res.done = true ∧ u.ops = s.ops ∧ u.env.trace = s.env.trace ∧
      (p.hasReservedSelector = false → u.active = p ∧ u.res.code = .ok) ∧
      (p.hasReservedSelector = true → u.active = s.active ∧ u.res.code = .refused)

/-- 30_encoding.md section 9: the writes of `send_frame` and of `read_frame`, from IDLE, set the operands the command reads
(OP_ID, OP_LEN, OP_CHK and the first data.length bytes of OP_DATA; OP_ID and OP_LEN) and nothing else; the command, the
WAIT and the read of RESULT come next. (One step a write is the model's grain, log entry 4.) -/
def Obligations.FrameCallsSetTheOperands : Prop :=
  ∀ (s : State) (id chk : Byte) (data : List Byte) (n : Nat) (rest : List Turn), s.ctl.eng = .idle →
    (data.length ≤ 8 → s.env.turns = sendFrameCall id data chk ++ rest → ∃ v : Vector Byte 8,
      Host.Core.run Sys2Proof.core (data.length + 3) s = .next { s with
        ops := { id := id, len := BitVec.ofNat 4 data.length, chk := chk, data := v }
        env := { s.env with turns := [.write 0x0B 4, .wait, .read 0x0D] ++ rest } } ∧
      v.toList.take data.length = data ∧ v.toList.drop data.length = s.ops.data.toList.drop data.length) ∧
    (n ≤ 8 → s.env.turns = readFrameCall id n ++ rest →
      Host.Core.run Sys2Proof.core 2 s = .next { s with
        ops := { s.ops with id := id, len := BitVec.ofNat 4 n }
        env := { s.env with turns := [.write 0x0B 5, .wait, .read 0x0D] ++ rest } })

/-- 30_encoding.md section 9: what the host reads after a call, by the words of STATUS and RESULT. After `send_frame`, on Ok:
FRAME_LEN and then FRAME[0] to FRAME[n+2]. After `read_frame`: BUF[0] to BUF[n-1] on Ok, BUF[0] to BUF[R_COUNT-1] on
OnlyPartialResponse. With any other result, or none, no byte is read. The reads change nothing but reg_rdata. (That a
halted engine's R_CODE = 0 is no Ok, since DONE = 0, is log entry 27.) -/
def Obligations.CallReadsGiveTheBytes : Prop :=
  ∀ (s : State) (n : Nat) (rest : List Turn), n ≤ 8 →
    (s.res.done = true → s.res.code = .ok → s.env.turns = sendFrameReads s.statusWord s.resultWord n ++ rest →
      Host.Core.run Sys2Proof.core 1 s = .next { s with
        env := { s.env with turns := rdRange 0x20 (3 + n) ++ rest, rdata := s.frameLen.setWidth 32 } } ∧
      ∀ j : Fin 11, j.val < 3 + n → Host.Core.run Sys2Proof.core (j.val + 2) s = .next { s with
        env := { s.env with turns := (rdRange 0x20 (3 + n)).drop (j.val + 1) ++ rest, rdata := s.frame[j].setWidth 32 } }) ∧
    (∀ m, s.res.done = true → s.res.code = .ok ∧ m = n ∨ s.res.code = .onlyPartialResponse ∧ m = s.res.count.toNat →
      s.env.turns = readFrameReads s.statusWord s.resultWord n ++ rest →
      ∀ j : Fin 8, j.val < m → Host.Core.run Sys2Proof.core (j.val + 1) s = .next { s with
        env := { s.env with turns := (rdRange 0x18 m).drop (j.val + 1) ++ rest, rdata := s.buf[j].setWidth 32 } }) ∧
    (s.res.done = false ∨ s.res.code ≠ .ok → sendFrameReads s.statusWord s.resultWord n = []) ∧
    (s.res.done = false ∨ s.res.code ≠ .ok ∧ s.res.code ≠ .onlyPartialResponse →
      readFrameReads s.statusWord s.resultWord n = [])

/-! ### The durations -/

/-- R140 and R141: the bit period of each speed code, and that the truncation loses less than one unit of the rate. -/
def Obligations.BitPeriodTable : Prop :=
  ∀ p : Profile,
    (p.speed = 0 → p.bitNs = 104166) ∧ (p.speed = 1 → p.bitNs = 96153) ∧ (p.speed = 2 → p.bitNs = 52083) ∧
    (p.speed = 3 → p.bitNs = 50000) ∧
    p.bitNs = 1000000000 / baudRate p.speed ∧ p.bitNs * baudRate p.speed ≤ 1000000000 ∧
    1000000000 - p.bitNs * baudRate p.speed < baudRate p.speed

/-- 40_timing_profile.md section 1: the break is 13 bit periods, or 13 plus the extra bits with selector 1, and its
length lies between 650,000 and 27,916,488 ns, so that it always fits 32 bits. -/
def Obligations.BreakLengthRange : Prop :=
  ∀ p : Profile,
    (p.brkSel = 0 → p.breakNs = 13 * p.bitNs) ∧ (p.brkSel = 1 → p.breakNs = (13 + p.brkExtra.toNat) * p.bitNs) ∧
    650000 ≤ p.breakNs ∧ p.breakNs ≤ 27916488

/-- R144: the wakeup length; a Custom value is neither clamped nor tested here. (That the reserved selector names no
duration is the model's reading, log entry 9.) -/
def Obligations.WakeupLength : Prop :=
  ∀ p : Profile,
    (p.wakeSel = 0 → p.wakeupNs = some 250000) ∧ (p.wakeSel = 1 → p.wakeupNs = some 5000000) ∧
    (p.wakeSel = 2 → p.wakeupNs = some p.wakeNs.toNat)

/-- R145 and R146: the response timeout and the inter-frame space, and exactly when each is defined. -/
def Obligations.TimeoutAndSpaceLengths : Prop :=
  ∀ p : Profile,
    (p.rtoSel = 0 → p.rtoNs = some 0) ∧
    (p.rtoSel = 1 → (p.rtoN.toNat ≤ 4294967 → p.rtoNs = some (p.rtoN.toNat * 1000)) ∧
      (4294967 < p.rtoN.toNat → p.rtoNs = none)) ∧
    (p.rtoSel = 2 → (p.rtoN.toNat ≤ 4294 → p.rtoNs = some (p.rtoN.toNat * 1000000)) ∧
      (4294 < p.rtoN.toNat → p.rtoNs = none)) ∧
    (p.ifsSel = 0 → p.ifsNs = some 0) ∧
    (p.ifsSel = 1 → (p.ifsN.toNat ≤ 4294967 → p.ifsNs = some (p.ifsN.toNat * 1000)) ∧
      (4294967 < p.ifsN.toNat → p.ifsNs = none)) ∧
    (p.ifsSel = 2 → (p.ifsN.toNat ≤ 4294 → p.ifsNs = some (p.ifsN.toNat * 1000000)) ∧
      (4294 < p.ifsN.toNat → p.ifsNs = none))

/-- 70_reset_and_hazards.md section 4: a delay of n nanoseconds takes ceil(n / TICK_NS) clock periods, at least n and less than n + TICK_NS
nanoseconds, and exactly n with TICK_NS = 1. -/
def Obligations.DelayRoundsUpToPeriods : Prop :=
  ∀ (c : Config) (n : Nat), 1 ≤ c.tickNs →
    n ≤ periodsFor c n * c.tickNs ∧ periodsFor c n * c.tickNs < n + c.tickNs ∧ (c.tickNs = 1 → periodsFor c n = n)

/-- 41_pulse_sequencer.md section 2: a delay under way is never cut short. Whatever a step does in such a state, other than
a reset, either STEP stays and DLY has fallen by no more than the clock periods that went by, or the clock has moved on
by all the periods the delay still took. -/
def Obligations.DelayIsServedInFull : Prop :=
  ∀ (s t : State) (d : Option Nat), s.action = .delay d → s.ctl.dly ≠ 0 → (∀ rest, s.env.turns ≠ .reset :: rest) →
    step s = .next t →
    (t.ctl.stepNo = s.ctl.stepNo ∧ t.ctl.eng = s.ctl.eng ∧ s.env.clock ≤ t.env.clock ∧
      s.ctl.dly.toNat ≤ t.ctl.dly.toNat + (t.env.clock - s.env.clock) * s.cfg.period) ∨
    t.env.clock = s.env.clock + periodsFor s.cfg s.ctl.dly.toNat

/-! ### INIT and the refusals -/

/-- 40_timing_profile.md section 2: INIT copies all nine fields of the staging profile at once, or is refused when a
selector of it is reserved and leaves the active profile as it is. (CUR_OP and STEP are those of the acceptance,
30_encoding.md section 2; that a refused INIT sets them too is log entry 22.) -/
def Obligations.InitInstallsOrIsRefused : Prop :=
  ∀ s : State, s.ctl.eng = .idle →
    (s.staging.wakeSel ≠ 3 → s.staging.rtoSel ≠ 3 → s.staging.ifsSel ≠ 3 →
      exec .init s = .next { s with
        active := s.staging
        ctl := { s.ctl with curOp := .init, stepNo := 0 }
        res := { s.res with done := true, code := .ok, count := 0, chk := 0, err := 0 } }) ∧
    (s.staging.wakeSel = 3 ∨ s.staging.rtoSel = 3 ∨ s.staging.ifsSel = 3 →
      exec .init s = .next { s with
        ctl := { s.ctl with curOp := .init, stepNo := 0 }
        res := { s.res with done := true, code := .refused, count := 0, chk := 0, err := 0 } })

/-- 30_encoding.md sections 2 and 7: a reserved opcode is refused with code 15, nothing else changes and the engine stays
IDLE. -/
def Obligations.ReservedOpcodesAreRefused : Prop :=
  ∀ s : State, s.ctl.eng = .idle → ∀ i, i = .cmdReserved0 ∨ i = .cmdReserved6 ∨ i = .cmdReserved7 →
    exec i s = .next { s with res := { s.res with done := true, code := .refused, count := 0, chk := 0, err := 0 } } ∧
    resultCode .refused = 15

/-- 30_encoding.md section 2, 10_state.md section 2: outside IDLE a CMD write changes nothing, whatever its word. -/
def Obligations.CommandsAreIgnoredOutsideIdle : Prop :=
  ∀ (s : State) (w : Word), s.ctl.eng ≠ .idle → exec (decodeCmd w) s = .next s

/-! ### The pulse commands -/

/-- 41_pulse_sequencer.md sections 1 and 2: SEND_BREAK is accepted in IDLE, drives one PULSE(break_ns, bit_ns) and
completes with Ok; the transport is not touched. (That a STEP and its action begin together is the model's grain of a
step, log entry 6; the clock is the figure of 70_reset_and_hazards.md section 4 taken as exact, log entry 19.) -/
def Obligations.SendBreakPulsesAndCompletes : Prop :=
  ∀ s : State, s.ctl.eng = .idle →
    ∃ t, exec .sendBreak s = .next t ∧
      t = { s with
        line := s.cfg.assertLevel
        ctl := { s.ctl with eng := .busy, curOp := .sendBreak, stepNo := 1 }
        res := { s.res with done := false, code := .ok, count := 0, chk := 0, err := 0 }
        env := { s.env with trace := s.env.trace ++ [.line s.cfg.assertLevel] } } ∧
      (s.env.turns = [] → Host.Core.run Sys2Proof.core 4 t = .next { s with
        line := s.cfg.idleLevel
        ctl := { s.ctl with eng := .idle, curOp := .sendBreak, stepNo := 5, dly := 0 }
        res := { s.res with done := true, code := .ok, count := 0, chk := 0, err := 0 }
        env := { s.env with
          trace := s.env.trace ++ [.line s.cfg.assertLevel, .delay (BitVec.ofNat 32 s.active.breakNs),
            .line s.cfg.idleLevel, .delay (BitVec.ofNat 32 s.active.bitNs)]
          clock := s.env.clock + periodsFor s.cfg s.active.breakNs
            + periodsFor s.cfg s.active.bitNs } })

/-- 41_pulse_sequencer.md sections 1 and 3: SEND_WAKEUP drives PULSE(wake_ns, wake_ns) and completes with Ok when
wake_ns ≤ 5,000,000; a longer one halts the engine with WakeupTooLong before the line is touched. (The grain of a step
is the model's, log entry 6; the clock is the figure of 70_reset_and_hazards.md section 4 taken as exact, log entry 19.) -/
def Obligations.SendWakeupPulsesOrHalts : Prop :=
  ∀ (s : State) (n : Nat), s.ctl.eng = .idle → s.active.wakeupNs = some n →
    (n ≤ 5000000 →
      ∃ t, exec .sendWakeup s = .next t ∧
        t = { s with
          line := s.cfg.assertLevel
          ctl := { s.ctl with eng := .busy, curOp := .sendWakeup, stepNo := 1 }
          res := { s.res with done := false, code := .ok, count := 0, chk := 0, err := 0 }
          env := { s.env with trace := s.env.trace ++ [.line s.cfg.assertLevel] } } ∧
        (s.env.turns = [] → Host.Core.run Sys2Proof.core 4 t = .next { s with
          line := s.cfg.idleLevel
          ctl := { s.ctl with eng := .idle, curOp := .sendWakeup, stepNo := 5, dly := 0 }
          res := { s.res with done := true, code := .ok, count := 0, chk := 0, err := 0 }
          env := { s.env with
            trace := s.env.trace ++ [.line s.cfg.assertLevel, .delay (BitVec.ofNat 32 n), .line s.cfg.idleLevel,
              .delay (BitVec.ofNat 32 n)]
            clock := s.env.clock + periodsFor s.cfg n + periodsFor s.cfg n } })) ∧
    (5000000 < n → exec .sendWakeup s = .next { s with
      ctl := { s.ctl with eng := .halted, curOp := .sendWakeup, stepNo := 0 }
      res := { s.res with
        done := false, code := .ok, count := 0, chk := 0, err := 0, fatal := true, fatalCause := .wakeupTooLong } })

/-! ### SEND_FRAME -/

/-- R182: the precheck of SEND_FRAME, the length first and then the inter-frame space. Nothing has been done when either
is raised: the engine is HALTED with the cause, the frame is unchanged and the trace is empty. -/
def Obligations.SendFramePrecheckHalts : Prop :=
  ∀ s : State, s.ctl.eng = .idle →
    (s.ops.len.toNat = 0 ∨ 8 < s.ops.len.toNat → exec .sendFrame s = .next { s with
      ctl := { s.ctl with eng := .halted, curOp := .sendFrame, stepNo := 0 }
      res := { s.res with
        done := false, code := .ok, count := 0, chk := 0, err := 0, fatal := true, fatalCause := .dataLengthOutOfRange } }) ∧
    (1 ≤ s.ops.len.toNat → s.ops.len.toNat ≤ 8 → s.active.ifsNs = none → exec .sendFrame s = .next { s with
      ctl := { s.ctl with eng := .halted, curOp := .sendFrame, stepNo := 0 }
      res := { s.res with
        done := false, code := .ok, count := 0, chk := 0, err := 0, fatal := true, fatalCause := .durationOverflow } })

/-- 42_frame_tx.md sections 1 and 2: the frame buffer that SEND_FRAME builds, position by position, and its length;
nothing is escaped, no parity and no checksum is computed, and the positions beyond the frame hold 0x00. (That the
frame stands built, at STEP 1, as soon as the command is accepted is the model's grain, log entry 6.) -/
def Obligations.SendFrameBuildsTheFrame : Prop :=
  ∀ s : State, s.ctl.eng = .idle → 1 ≤ s.ops.len.toNat → s.ops.len.toNat ≤ 8 → s.active.ifsNs ≠ none →
    ∃ f : Vector Byte 11, exec .sendFrame s = .next { s with
        frame := f
        frameLen := 3 + s.ops.len
        ctl := { s.ctl with eng := .busy, curOp := .sendFrame, stepNo := 1, txi := 0 }
        res := { s.res with done := false, code := .ok, count := 0, chk := 0, err := 0 } } ∧
      f[0] = 0x55 ∧ f[1] = s.ops.id ∧ (3 + s.ops.len).toNat = 3 + s.ops.len.toNat ∧
      (∀ i : Fin 8, i.val < s.ops.len.toNat → f[2 + i.val]? = some s.ops.data[i]) ∧
      f[2 + s.ops.len.toNat]? = some s.ops.chk ∧ (∀ j : Fin 11, 3 + s.ops.len.toNat ≤ j.val → f[j] = 0)

/-- 42_frame_tx.md section 1: the whole of a successful SEND_FRAME. From IDLE, with a legal length n, a defined inter-frame space d, 3 + n Ok
answers to TxByte and an Ok answer to Flush, it takes 10 + n steps after its acceptance, hands over exactly
`0x55, id, data_0 .. data_(n-1), checksum` in this order, flushes once, waits the inter-frame space and ends with Ok.
(The number of steps is the model's grain, log entry 6; that the clock moves by the three delays of
70_reset_and_hazards.md section 4 and no more is log entry 19.) -/
def Obligations.SendFrameSendsTheFrame : Prop :=
  ∀ (s : State) (d : Nat) (oks : List TxWord) (txRest : List TxWord) (flRest : List (BitVec 1)),
    s.ctl.eng = .idle → s.env.turns = [] → 1 ≤ s.ops.len.toNat → s.ops.len.toNat ≤ 8 → s.active.ifsNs = some d →
    oks.length = 3 + s.ops.len.toNat → (∀ w ∈ oks, w.ans = 0) → s.env.txAns = oks ++ txRest →
    s.env.flushAns = 0 :: flRest →
    ∃ t, exec .sendFrame s = .next t ∧
      Host.Core.run Sys2Proof.core (10 + s.ops.len.toNat) t = .next { s with
        frame := t.frame
        frameLen := 3 + s.ops.len
        line := s.cfg.idleLevel
        ctl := { eng := .idle, curOp := .sendFrame, stepNo := 9, txi := 3 + s.ops.len, dly := 0 }
        res := { s.res with done := true, code := .ok, count := 0, chk := 0, err := 0 }
        env := { s.env with
          txAns := txRest
          flushAns := flRest
          trace := s.env.trace ++ [.line s.cfg.assertLevel, .delay (BitVec.ofNat 32 s.active.breakNs),
              .line s.cfg.idleLevel, .delay (BitVec.ofNat 32 s.active.bitNs)]
            ++ ([0x55, s.ops.id] ++ s.ops.data.toList.take s.ops.len.toNat ++ [s.ops.chk]).map (.tx · .ok)
            ++ [.flush .ok, .delay (BitVec.ofNat 32 d)]
          clock := s.env.clock + periodsFor s.cfg s.active.breakNs + periodsFor s.cfg s.active.bitNs
            + periodsFor s.cfg d } }

/-- 42_frame_tx.md section 2 (the write burst) and 44_read_frame.md section 2 (the header write): an Ok answer to TxByte.
In SEND_FRAME's STEP 6 the next byte follows while TXI + 1 < FRAME_LEN, else the flush; in READ_FRAME the id follows
0x55, and after the id the response timeout r begins. (That it begins in the same step is log entry 6; that the header's
answers count TXI is log entry 7.) -/
def Obligations.TxOkTakesTheByte : Prop :=
  ∀ s : State, s.ctl.eng = .busy →
    (s.ctl.curOp = .sendFrame → s.ctl.stepNo = 6 → ∀ b, s.frame[s.ctl.txi.toNat]? = some b →
      exec .txOk s = .next { s with
        ctl := { s.ctl with
          txi := s.ctl.txi + 1
          stepNo := if s.ctl.txi.toNat + 1 < s.frameLen.toNat then 6 else 7 }
        env := { s.env with trace := s.env.trace ++ [.tx b .ok] } }) ∧
    (s.ctl.curOp = .readFrame → s.ctl.stepNo = 6 → exec .txOk s = .next { s with
        ctl := { s.ctl with txi := s.ctl.txi + 1, stepNo := 7 }
        env := { s.env with trace := s.env.trace ++ [.tx 0x55 .ok] } }) ∧
    (s.ctl.curOp = .readFrame → s.ctl.stepNo = 7 → ∀ r, s.active.rtoNs = some r → exec .txOk s = .next { s with
        ctl := { s.ctl with txi := s.ctl.txi + 1, stepNo := 8, dly := BitVec.ofNat 32 r }
        env := { s.env with trace := s.env.trace ++ [.tx s.ops.id .ok, .delay (BitVec.ofNat 32 r)] } })

/-- R186 and R235: an Err(e) answer to a TxByte of SEND_FRAME's burst or of READ_FRAME's header ends the command at once
with TransportError and the transport's code: no further byte, no flush, no delay, no poll; TXI stays on the byte that
failed and the parser's registers keep what they held. -/
def Obligations.TxErrAbortsTheCommand : Prop :=
  ∀ (s : State) (e b : Byte), s.ctl.eng = .busy →
    (s.ctl.curOp = .sendFrame ∧ s.ctl.stepNo = 6 ∧ s.frame[s.ctl.txi.toNat]? = some b) ∨
      (s.ctl.curOp = .readFrame ∧ s.ctl.stepNo = 6 ∧ b = 0x55) ∨
      (s.ctl.curOp = .readFrame ∧ s.ctl.stepNo = 7 ∧ b = s.ops.id) →
    exec (.txErr e) s = .next { s with
      ctl := { s.ctl with eng := .idle }
      res := { s.res with done := true, code := .transportError, count := 0, chk := 0, err := e }
      env := { s.env with trace := s.env.trace ++ [.tx b (.err e)] } }

/-- 42_frame_tx.md section 2, the flush: Ok goes on to the inter-frame space d; Fail completes with WriteNotAcknowledged
and serves none. (That d begins in the same step is log entry 6.) -/
def Obligations.FlushAnswersAtSendFrame : Prop :=
  ∀ (s : State) (d : Nat), s.ctl.eng = .busy → s.ctl.curOp = .sendFrame → s.ctl.stepNo = 7 →
    s.active.ifsNs = some d →
    exec .flushOk s = .next { s with
      ctl := { s.ctl with stepNo := 8, dly := BitVec.ofNat 32 d }
      env := { s.env with trace := s.env.trace ++ [.flush .ok, .delay (BitVec.ofNat 32 d)] } } ∧
    exec .flushFail s = .next { s with
      ctl := { s.ctl with eng := .idle }
      res := { s.res with done := true, code := .writeNotAcknowledged, count := 0, chk := 0, err := 0 }
      env := { s.env with trace := s.env.trace ++ [.flush .fail] } }

/-! ### READ_FRAME -/

/-- R241: the precheck of READ_FRAME, the length first and then the two durations; nothing has been done when either is
raised. -/
def Obligations.ReadFramePrecheckHalts : Prop :=
  ∀ s : State, s.ctl.eng = .idle →
    (s.ops.len.toNat = 0 ∨ 8 < s.ops.len.toNat → exec .readFrame s = .next { s with
      ctl := { s.ctl with eng := .halted, curOp := .readFrame, stepNo := 0 }
      res := { s.res with
        done := false, code := .ok, count := 0, chk := 0, err := 0, fatal := true, fatalCause := .dataLengthOutOfRange } }) ∧
    (1 ≤ s.ops.len.toNat → s.ops.len.toNat ≤ 8 → s.active.ifsNs = none ∨ s.active.rtoNs = none →
      exec .readFrame s = .next { s with
        ctl := { s.ctl with eng := .halted, curOp := .readFrame, stepNo := 0 }
        res := { s.res with
          done := false, code := .ok, count := 0, chk := 0, err := 0, fatal := true, fatalCause := .durationOverflow } })

/-- 44_read_frame.md sections 1 and 2: READ_FRAME from IDLE, with a legal length and defined durations. It is accepted and
the leading inter-frame space d begins; and, left to itself with two Ok answers to come, it takes 8 steps from there to
the first poll: the inter-frame space, the break, the header, the response timeout, in this order, and the parser
initialised. (TXI, which counts the header bytes, is set from 0: the model's reading, log entry 7. The grain
of a step is log entry 6; that the clock moves by exactly the four delays, 70_reset_and_hazards.md section 4, is log
entry 19.) -/
def Obligations.ReadFrameReachesTheParse : Prop :=
  ∀ (s : State) (d r : Nat), s.ctl.eng = .idle → 1 ≤ s.ops.len.toNat → s.ops.len.toNat ≤ 8 →
    s.active.ifsNs = some d → s.active.rtoNs = some r →
    ∃ t, exec .readFrame s = .next t ∧
      t = { s with
        ctl := { eng := .busy, curOp := .readFrame, stepNo := 1, txi := 0, dly := BitVec.ofNat 32 d }
        res := { s.res with done := false, code := .ok, count := 0, chk := 0, err := 0 }
        env := { s.env with trace := s.env.trace ++ [.delay (BitVec.ofNat 32 d)] } } ∧
      ∀ (e0 e1 : Byte) (txRest : List TxWord), s.env.turns = [] →
        s.env.txAns = { ans := 0, err := e0 } :: { ans := 0, err := e1 } :: txRest →
        Host.Core.run Sys2Proof.core 8 t = .next { s with
          line := s.cfg.idleLevel
          ctl := { eng := .busy, curOp := .readFrame, stepNo := 9, txi := 2, dly := 0 }
          parser := { phase := .awaitSync, syncSeen := false, count := 0, chk := 0, rxErrV := false, rxErr := 0 }
          res := { s.res with done := false, code := .ok, count := 0, chk := 0, err := 0 }
          env := { s.env with
            txAns := txRest
            trace := s.env.trace ++ [.delay (BitVec.ofNat 32 d), .line s.cfg.assertLevel,
              .delay (BitVec.ofNat 32 s.active.breakNs), .line s.cfg.idleLevel,
              .delay (BitVec.ofNat 32 s.active.bitNs), .tx 0x55 .ok, .tx s.ops.id .ok, .delay (BitVec.ofNat 32 r)]
            clock := s.env.clock + periodsFor s.cfg d + periodsFor s.cfg s.active.breakNs
              + periodsFor s.cfg s.active.bitNs + periodsFor s.cfg r } }

/-! ### The parser. Polling is: BUSY in READ_FRAME at STEP 9. -/

/-- R202 and R203: a byte in AwaitSync. 0x55 sets SYNC_SEEN and moves to AwaitId; any other byte is discarded. The byte
is not stored, and polling goes on at the same STEP. -/
def Obligations.AwaitSyncOnByte : Prop :=
  ∀ (s : State) (b : Byte), s.ctl.eng = .busy → s.ctl.curOp = .readFrame → s.ctl.stepNo = 9 →
    s.parser.phase = .awaitSync →
    (b = 0x55 → exec (.rxByteAwaitSyncSync b) s = .next { s with
      parser := { s.parser with syncSeen := true, phase := .awaitId }
      env := { s.env with trace := s.env.trace ++ [.rx (.byte b)] } }) ∧
    (b ≠ 0x55 → exec (.rxByteAwaitSyncOther b) s = .next { s with
      env := { s.env with trace := s.env.trace ++ [.rx (.byte b)] } })

/-- R204 and R205: a byte in AwaitId. A byte equal to OP_ID moves to ReadData; any other, 0x55 included, goes back to
AwaitSync and is dropped, with SYNC_SEEN as it was. -/
def Obligations.AwaitIdOnByte : Prop :=
  ∀ (s : State) (b : Byte), s.ctl.eng = .busy → s.ctl.curOp = .readFrame → s.ctl.stepNo = 9 →
    s.parser.phase = .awaitId →
    (b = s.ops.id → exec (.rxByteAwaitIdMatch b) s = .next { s with
      parser := { s.parser with phase := .readData }
      env := { s.env with trace := s.env.trace ++ [.rx (.byte b)] } }) ∧
    (b ≠ s.ops.id → exec (.rxByteAwaitIdMismatch b) s = .next { s with
      parser := { s.parser with phase := .awaitSync }
      env := { s.env with trace := s.env.trace ++ [.rx (.byte b)] } })

/-- R206 and R207: a byte in ReadData goes to BUF[COUNT] and COUNT counts it, whatever its value; the OP_LEN-th byte
moves to AwaitChecksum. The other positions of BUF keep what they held. -/
def Obligations.ReadDataOnByte : Prop :=
  ∀ (s : State) (b : Byte), s.ctl.eng = .busy → s.ctl.curOp = .readFrame → s.ctl.stepNo = 9 →
    s.parser.phase = .readData → s.ops.len.toNat ≤ 8 →
    (s.parser.count.toNat + 1 < s.ops.len.toNat → ∃ v : Vector Byte 8,
      exec (.rxByteReadDataMore b) s = .next { s with
        buf := v
        parser := { s.parser with count := s.parser.count + 1 }
        env := { s.env with trace := s.env.trace ++ [.rx (.byte b)] } } ∧
      v[s.parser.count.toNat]? = some b ∧ ∀ k : Fin 8, k.val ≠ s.parser.count.toNat → v[k] = s.buf[k]) ∧
    (s.parser.count.toNat + 1 = s.ops.len.toNat → ∃ v : Vector Byte 8,
      exec (.rxByteReadDataLast b) s = .next { s with
        buf := v
        parser := { s.parser with count := s.ops.len, phase := .awaitChecksum }
        env := { s.env with trace := s.env.trace ++ [.rx (.byte b)] } } ∧
      v[s.parser.count.toNat]? = some b ∧ ∀ k : Fin 8, k.val ≠ s.parser.count.toNat → v[k] = s.buf[k])

/-- 43_resync_parser.md section 2 and 44_read_frame.md section 2: the byte in AwaitChecksum is captured unchanged, the
phase is Done, polling stops, and the trailing inter-frame space d begins (in the same step: log entry 6). -/
def Obligations.AwaitChecksumOnByte : Prop :=
  ∀ (s : State) (b : Byte) (d : Nat), s.ctl.eng = .busy → s.ctl.curOp = .readFrame → s.ctl.stepNo = 9 →
    s.parser.phase = .awaitChecksum → s.active.ifsNs = some d →
    exec (.rxByteAwaitChecksum b) s = .next { s with
      parser := { s.parser with chk := b, phase := .done }
      ctl := { s.ctl with stepNo := 10, dly := BitVec.ofNat 32 d }
      env := { s.env with trace := s.env.trace ++ [.rx (.byte b), .delay (BitVec.ofNat 32 d)] } }

/-- 43_resync_parser.md section 3: in any phase but Done, WouldBlock stops the parse with no register of the parser changed; Err(e), and
the reserved answer 3 likewise, stops it with RXERR_V set and RXERR = e. Either way the trailing inter-frame space d
begins (in the same step: log entry 6). -/
def Obligations.ParseStopsOnWouldBlockOrError : Prop :=
  ∀ (s : State) (e : Byte) (d : Nat), s.ctl.eng = .busy → s.ctl.curOp = .readFrame → s.ctl.stepNo = 9 →
    s.parser.phase ≠ .done → s.active.ifsNs = some d →
    exec .rxWouldBlock s = .next { s with
      ctl := { s.ctl with stepNo := 10, dly := BitVec.ofNat 32 d }
      env := { s.env with trace := s.env.trace ++ [.rx .wouldBlock, .delay (BitVec.ofNat 32 d)] } } ∧
    ∀ i, i = .rxError e ∨ i = .rxReserved3 e → exec i s = .next { s with
      parser := { s.parser with rxErrV := true, rxErr := e }
      ctl := { s.ctl with stepNo := 10, dly := BitVec.ofNat 32 d }
      env := { s.env with trace := s.env.trace ++ [.rx (.err e), .delay (BitVec.ofNat 32 d)] } }

/-- The named stops of the answers (log entry 8; the spec gives an answer that no pending action asked for, and an RX_BYTE
row outside its guard, no effect): each answers its refusal and nothing else, on every port. -/
def Obligations.AnswersOutOfPlaceAreRefused : Prop :=
  ∀ s : State,
    (s.polling = false → ∀ i, (∃ w, encode i = .rx w) → exec i s = .refused .answerUnasked) ∧
    (s.polling = true → ∀ i, (∃ w, encode i = .rx w) → i.wellFormed = false ∨ i.guard s.view = false →
      exec i s = .refused .guardNotMet) ∧
    ((∀ b more, s.action ≠ .tx b more) → ∀ i, (∃ w, encode i = .tx w) → exec i s = .refused .answerUnasked) ∧
    (s.action ≠ .flush → ∀ i, (∃ a, encode i = .flush a) → exec i s = .refused .answerUnasked)

/-- 43_resync_parser.md section 5 and 44_read_frame.md section 2: the result that ends a READ_FRAME after its trailing
delay. (That one step serves what is left of the delay and selects the result is the model's grain, log entry 6.) A hard read error wins; else the first of
sync, id, timeout, partial, checksum, success that holds. COUNT is recorded for OnlyPartialResponse alone, CHK for Ok
alone. -/
def Obligations.ReadFrameResultSelection : Prop :=
  ∀ s : State, s.ctl.eng = .busy → s.ctl.curOp = .readFrame → s.ctl.stepNo = 10 → s.env.turns = [] →
    ∃ u, step s = .next u ∧ u.ctl.eng = .idle ∧ u.res.done = true ∧ u.parser = s.parser ∧ u.buf = s.buf ∧
      u.env.trace = s.env.trace ∧
      (s.parser.rxErrV = true → u.res.code = .transportError ∧ u.res.err = s.parser.rxErr ∧ u.res.count = 0 ∧ u.res.chk = 0) ∧
      (s.parser.rxErrV = false → u.res.err = 0 ∧
        (s.parser.syncSeen = false → u.res.code = .syncByteNotReceivedBack ∧ u.res.count = 0 ∧ u.res.chk = 0) ∧
        (s.parser.syncSeen = true →
          (s.parser.phase = .awaitSync ∨ s.parser.phase = .awaitId →
            u.res.code = .idByteNotReceivedBack ∧ u.res.count = 0 ∧ u.res.chk = 0) ∧
          (s.parser.phase = .readData ∧ s.parser.count = 0 →
            u.res.code = .deviceTimeoutNoResponse ∧ u.res.count = 0 ∧ u.res.chk = 0) ∧
          (s.parser.phase = .readData ∧ s.parser.count ≠ 0 →
            u.res.code = .onlyPartialResponse ∧ u.res.count = s.parser.count ∧ u.res.chk = 0) ∧
          (s.parser.phase = .awaitChecksum → u.res.code = .noChecksumReceived ∧ u.res.count = 0 ∧ u.res.chk = 0) ∧
          (s.parser.phase = .done → u.res.code = .ok ∧ u.res.count = 0 ∧ u.res.chk = s.parser.chk)))

/-- 43_resync_parser.md sections 2 to 5: the outcome of a READ_FRAME over ANY byte stream. From an initialised parse loop,
with the bytes bs in the transport and silence after them, the command ends within bs.length + 2 steps, with the code,
count and checksum that streamOutcome reads off the list of bytes, the data bytes in BUF from position 0 and every other
position of BUF as it was. (The number of steps is the model's grain, log entry 6.) -/
def Obligations.ReadFrameClassifiesEveryStream : Prop :=
  ∀ (s : State) (bs : List Byte) (d : Nat) (rest : List RxWord), s.ctl.eng = .busy → s.ctl.curOp = .readFrame →
    s.ctl.stepNo = 9 → s.env.turns = [] → 1 ≤ s.ops.len.toNat → s.ops.len.toNat ≤ 8 → s.active.ifsNs = some d →
    s.parser = { phase := .awaitSync, syncSeen := false, count := 0, chk := 0, rxErrV := false, rxErr := 0 } →
    s.env.rxAns = silentAfter bs ++ rest →
    ∃ k u, k ≤ bs.length + 2 ∧ Host.Core.run Sys2Proof.core k s = .next u ∧ u.ctl.eng = .idle ∧ u.res.done = true ∧
      (u.res.code, u.res.count, u.res.chk) = streamOutcome s.ops.id s.ops.len.toNat bs ∧ u.res.err = 0 ∧
      (∀ j : Fin 8, u.buf[j] = (streamData s.ops.id s.ops.len.toNat bs).getD j.val s.buf[j]) ∧
      u.ops = s.ops ∧ u.frame = s.frame ∧ u.line = s.line ∧ u.active = s.active

/-- 43_resync_parser.md section 6, the round trip: a frame as SEND_FRAME builds it, met by the parse loop, is parsed back
into its data and its checksum in exactly n + 3 polls, for every id, data and checksum; the bytes after it are left in
the transport. (That the trailing delay begins in the last poll's step is log entry 6.) -/
def Obligations.SentFrameIsReadBack : Prop :=
  ∀ (s : State) (d : Nat) (data : List Byte) (c : Byte) (rest : List RxWord), s.ctl.eng = .busy →
    s.ctl.curOp = .readFrame → s.ctl.stepNo = 9 → s.env.turns = [] → s.active.ifsNs = some d →
    s.parser = { phase := .awaitSync, syncSeen := false, count := 0, chk := 0, rxErrV := false, rxErr := 0 } →
    1 ≤ data.length → data.length ≤ 8 → s.ops.len.toNat = data.length →
    s.env.rxAns = byteAnswers ([0x55, s.ops.id] ++ data ++ [c]) ++ rest →
    ∃ v : Vector Byte 8, Host.Core.run Sys2Proof.core (data.length + 3) s = .next { s with
        buf := v
        parser := { phase := .done, syncSeen := true, count := s.ops.len, chk := c, rxErrV := false, rxErr := 0 }
        ctl := { s.ctl with stepNo := 10, dly := BitVec.ofNat 32 d }
        env := { s.env with
          rxAns := rest
          trace := s.env.trace ++ ([0x55, s.ops.id] ++ data ++ [c]).map (.rx <| .byte ·)
            ++ [.delay (BitVec.ofNat 32 d)] } } ∧
      v.toList.take data.length = data ∧ v.toList.drop data.length = s.buf.toList.drop data.length

/-- 70_reset_and_hazards.md section 3: the parse has no bound of its own. As long as the transport goes on answering with
bytes that are not 0x55, the engine stays BUSY in AwaitSync, k polls later as now, with no result. -/
def Obligations.BabblingBusKeepsPolling : Prop :=
  ∀ (s : State) (bs : List Byte) (rest : List RxWord), s.ctl.eng = .busy → s.ctl.curOp = .readFrame →
    s.ctl.stepNo = 9 → s.env.turns = [] → s.parser.phase = .awaitSync → (∀ b ∈ bs, b ≠ 0x55) →
    s.env.rxAns = byteAnswers bs ++ rest →
    Host.Core.run Sys2Proof.core bs.length s = .next { s with
      env := { s.env with rxAns := rest, trace := s.env.trace ++ bs.map (.rx <| .byte ·) } }

/-- 70_reset_and_hazards.md section 3: an infinite run. Where the transport goes on answering for ever with bytes that are
not 0x55, every poll is answered and the parse never ends: after any number k of steps the engine is BUSY at the parse
loop with no register changed, no result, and k more polls in the trace, answered by bs and then by cs over and over. (A transport that answers for ever is one whose
repeated answers are not empty, log entry 28.) -/
def Obligations.EndlessStreamNeverEnds : Prop :=
  ∀ (s : State) (bs cs : List Byte) (k : Nat), s.ctl.eng = .busy → s.ctl.curOp = .readFrame → s.ctl.stepNo = 9 →
    s.env.turns = [] → s.parser.phase = .awaitSync → (∀ b ∈ bs, b ≠ 0x55) → (∀ b ∈ cs, b ≠ 0x55) → cs ≠ [] →
    s.env.rxAns = byteAnswers bs → s.env.rxLoop = byteAnswers cs →
    ∃ (l : List RxWord) (es : List Byte), es.length = k ∧
      (∀ j, j < k → es[j]? = if j < bs.length then bs[j]? else cs[(j - bs.length) % cs.length]?) ∧
      Host.Core.run Sys2Proof.core k s = .next { s with
        env := { s.env with rxAns := l, trace := s.env.trace ++ es.map (.rx <| .byte ·) } }

/-- 43_resync_parser.md section 6, idempotence: two READ_FRAMEs with the same parameters, profile, id, length and answers
of the transport give, step for step, the same result and the same actions, whatever the parser, the buffers, the old
result and the checksum and data operands held before. -/
def Obligations.ReadFrameForgetsThePast : Prop :=
  ∀ (s₁ s₂ : State) (k : Nat), s₁.ctl.eng = .idle → s₂.ctl.eng = .idle → s₁.cfg = s₂.cfg → s₁.active = s₂.active →
    s₁.ops.id = s₂.ops.id → s₁.ops.len = s₂.ops.len → s₁.env.turns = [] → s₂.env.turns = [] →
    s₁.env.txAns = s₂.env.txAns → s₁.env.rxAns = s₂.env.rxAns →
    s₁.env.rxLoop = s₂.env.rxLoop → 1 ≤ s₁.ops.len.toNat → s₁.ops.len.toNat ≤ 8 →
    s₁.active.ifsNs ≠ none → s₁.active.rtoNs ≠ none →
    ∃ t₁ t₂ u₁ u₂ tr, exec .readFrame s₁ = .next t₁ ∧ exec .readFrame s₂ = .next t₂ ∧
      Host.Core.run Sys2Proof.core k t₁ = .next u₁ ∧ Host.Core.run Sys2Proof.core k t₂ = .next u₂ ∧
      u₁.ctl.eng = u₂.ctl.eng ∧ u₁.res.done = u₂.res.done ∧ u₁.res.code = u₂.res.code ∧ u₁.res.count = u₂.res.count ∧
      u₁.res.chk = u₂.res.chk ∧ u₁.res.err = u₂.res.err ∧
      u₁.env.trace = s₁.env.trace ++ tr ∧ u₂.env.trace = s₂.env.trace ++ tr

/-! ### The whole machine -/

/-- The invariant holds right after reset, for every choice of the parameters. -/
def Obligations.ResetMeetsTheInvariant : Prop := ∀ c : Config, StateInv (State.resetWith c)

/-- Every step keeps the invariant: the active profile without a reserved selector, a BUSY engine at a STEP of its
command with the precheck passed, the line at the idle level outside the asserted interval, the parser's and the result's
registers consistent, DLY within the delay under way, the frame buffer and TXI consistent. (That READ_FRAME's TXI counts the
header from 0 is log entry 7; the STEPs at which the parts hold are those of the model's grain, log entry 6.) -/
def Obligations.StepKeepsTheInvariant : Prop := ∀ s t : State, StateInv s → step s = .next t → StateInv t

/-- In a state that keeps the invariant a step never refuses, and its one fault is the halted engine with nothing left
outside (log entry 10): every command and every answer the transport can give runs. -/
def Obligations.StepNeverRefuses : Prop :=
  ∀ s : State, StateInv s →
    (∃ t, step s = .next t) ∨
      (s.ctl.eng = .halted ∧ s.env.turns = [] ∧ step s = .fault (.halted s.res.fatalCause))

/-- 10_state.md section 3: the active profile is written only by an accepted INIT, as a whole, and by reset; and the host
cannot write it. -/
def Obligations.ActiveProfileChangesAsAWhole : Prop :=
  ∀ s t : State, step s = .next t →
    t.active = s.active ∨
    (∃ w rest, s.env.turns = .write 0x0B w :: rest ∧ decodeCmd w = .init ∧ s.ctl.eng = .idle ∧
      s.staging.hasReservedSelector = false ∧ t.active = s.staging) ∨
    (∃ rest, s.env.turns = .reset :: rest ∧ t.active = Profile.default s.cfg)

/-- 10_state.md sections 3, 4 and 7: who writes the data registers. Operands and staging profile change only by a host write in IDLE; BUF
only by an answer to RxPoll; FRAME and FRAME_LEN only by the acceptance of SEND_FRAME; the line only by a Line action,
which the trace then ends with; and all of them by reset. (That no step changes the parameters is log entry 2;
that the frame is built in the acceptance's own step is log entry 6.) -/
def Obligations.DataRegistersHaveTheirWriters : Prop :=
  ∀ s t : State, step s = .next t →
    t.cfg = s.cfg ∧
    ((∃ rest, s.env.turns = .reset :: rest) ∨
      ((t.ops ≠ s.ops ∨ t.staging ≠ s.staging → s.ctl.eng = .idle ∧ ∃ a w rest, s.env.turns = .write a w :: rest) ∧
       (t.buf ≠ s.buf → s.polling = true) ∧
       (t.frame ≠ s.frame ∨ t.frameLen ≠ s.frameLen →
         ∃ w rest, s.env.turns = .write 0x0B w :: rest ∧ decodeCmd w = .sendFrame) ∧
       (t.line ≠ s.line → ∃ tr, t.env.trace = tr ++ [.line t.line])))

/-- 10_state.md section 6: who writes the parser's registers, and how they move. But for reset they change only by parser
initialisation, at the end of READ_FRAME's response timeout, and by an answer to RxPoll. Such an answer never clears
SYNC_SEEN, moves PHASE forward except from AwaitId back to AwaitSync (so that PHASE never falls below ReadData once
there), counts COUNT in ReadData alone, and captures CHK on the way from AwaitChecksum to Done alone. (That the
initialisation falls into the step that ends the timeout is log entry 6.) -/
def Obligations.ParserRegistersHaveTheirWriters : Prop :=
  ∀ s t : State, step s = .next t →
    t.parser = s.parser ∨ (∃ rest, s.env.turns = .reset :: rest) ∨
    (s.ctl.eng = .busy ∧ s.ctl.curOp = .readFrame ∧ s.ctl.stepNo = 8 ∧ t.ctl.stepNo = 9 ∧
      t.parser = { phase := .awaitSync, syncSeen := false, count := 0, chk := 0, rxErrV := false, rxErr := 0 }) ∨
    (s.polling = true ∧ (s.parser.syncSeen = true → t.parser.syncSeen = true) ∧
      ((phaseCode s.parser.phase).toNat ≤ (phaseCode t.parser.phase).toNat ∨
        s.parser.phase = .awaitId ∧ t.parser.phase = .awaitSync) ∧
      (t.parser.count = s.parser.count ∨ s.parser.phase = .readData ∧ t.parser.count = s.parser.count + 1) ∧
      (t.parser.chk ≠ s.parser.chk → s.parser.phase = .awaitChecksum ∧ t.parser.phase = .done))

/-- 20_memory.md section 7 and 44_read_frame.md section 2: a step only adds to the trace, at most two actions (the one that
ends and the one that begins), and a step of READ_FRAME never adds a Flush. (That two is the most is the model's grain and its way of recording, log
entries 6, 15.) -/
def Obligations.TraceOnlyGrows : Prop :=
  ∀ s t : State, step s = .next t →
    ∃ es, t.env.trace = s.env.trace ++ es ∧ es.length ≤ 2 ∧
      (s.ctl.curOp = .readFrame → ∀ a, Event.flush a ∉ es)

/-- 30_encoding.md section 3 and 70_reset_and_hazards.md section 3: an action that has not been answered is pending and the
engine does nothing else, without bound: the step leaves the state as it is. -/
def Obligations.UnansweredActionWaits : Prop :=
  ∀ s : State, s.env.turns = [] →
    ((∃ b more, s.action = .tx b more) ∧ s.env.txAns = [] ∨ s.action = .flush ∧ s.env.flushAns = [] ∨
      s.polling = true ∧ s.env.rxAns = [] ∧ s.env.rxLoop = []) →
    step s = .next s

/-- 30_encoding.md section 3: what the output ports carry: line_out, done and the word last read on reg_rdata at all times;
the requests at SEND_FRAME's burst, at its flush, at READ_FRAME's two header bytes and at its parse loop. (That reg_rdata
holds the word last read while no read is under way is log entry 30.) -/
def Obligations.PortsShowThePendingAction : Prop :=
  ∀ s : State,
    s.ports.lineOut = s.line ∧ s.ports.done = s.res.done ∧ s.ports.regRdata = s.env.rdata ∧
    (∀ a, (s.hostRead a).ports.regRdata = s.readReg a) ∧
    (s.ctl.eng ≠ .busy → s.ports.txValid = false ∧ s.ports.flushReq = false ∧ s.ports.rxPoll = false) ∧
    (s.ctl.eng = .busy → s.ctl.curOp = .sendFrame → s.ctl.stepNo = 6 → ∀ b, s.frame[s.ctl.txi.toNat]? = some b →
      s.ports.txValid = true ∧ s.ports.txData = b ∧ s.ports.flushReq = false ∧ s.ports.rxPoll = false) ∧
    (s.ctl.eng = .busy → s.ctl.curOp = .sendFrame → s.ctl.stepNo = 7 →
      s.ports.flushReq = true ∧ s.ports.txValid = false ∧ s.ports.rxPoll = false) ∧
    (s.ctl.eng = .busy → s.ctl.curOp = .readFrame → s.ctl.stepNo = 6 →
      s.ports.txValid = true ∧ s.ports.txData = 0x55 ∧ s.ports.flushReq = false ∧ s.ports.rxPoll = false) ∧
    (s.ctl.eng = .busy → s.ctl.curOp = .readFrame → s.ctl.stepNo = 7 →
      s.ports.txValid = true ∧ s.ports.txData = s.ops.id ∧ s.ports.flushReq = false ∧ s.ports.rxPoll = false) ∧
    (s.ctl.eng = .busy → s.ctl.curOp = .readFrame → s.ctl.stepNo = 9 → s.parser.phase ≠ .done →
      s.ports.rxPoll = true ∧ s.ports.txValid = false ∧ s.ports.flushReq = false)

/-- 30_encoding.md section 9: WAIT reads STATUS and is over when DONE = 1 or FATAL = 1; until then the engine moves on and
the statement stays. (That each step of it is one read and one move of the engine is log entry 26.) -/
def Obligations.WaitEndsOnDoneOrFatal : Prop :=
  ∀ (s : State) (rest : List Turn), s.env.turns = .wait :: rest →
    (s.res.done = true ∨ s.ctl.eng = .halted →
      step s = .next { s with env := { s.env with turns := rest, rdata := s.statusWord } }) ∧
    (s.res.done = false → s.ctl.eng ≠ .halted → step s = engineMove (s.setRdata s.statusWord))
end

