-- ==== Sys2Proof/Laws/Decode.lean ====
section
/-! SUPPORT. The model's answer words read field by field (log entry 20): which port word each stands for. -/

namespace Sys2Proof

/-- Port bits 0: an RX answer of kind k with byte b. -/
theorem answerWord_rx (k : BitVec 2) (b : Byte) :
    answerWord (k.toNat + 256 * b.toNat) = some (.rx { kind := k, data := b, err := b }) := by
  have hk := k.isLt
  have hw : BitVec.ofNat 2 (k.toNat + 256 * b.toNat) = k := BitVec.eq_of_toNat_eq (by simp only [BitVec.toNat_ofNat]; omega)
  simp [answerWord, hw, show (k.toNat + 256 * b.toNat) / 256 = b.toNat by omega,
    show (k.toNat + 256 * b.toNat) / 16 % 16 = 0 by omega, show (k.toNat + 256 * b.toNat) / 4 % 4 = 0 by omega]

/-- Port bits 1: a TX answer a with byte b. -/
theorem answerWord_tx (a : BitVec 1) (b : Byte) :
    answerWord (a.toNat + 4 + 256 * b.toNat) = some (.tx { ans := a, err := b }) := by
  have ha := a.isLt
  have hw : BitVec.ofNat 1 (a.toNat + 4 + 256 * b.toNat) = a :=
    BitVec.eq_of_toNat_eq (by simp only [BitVec.toNat_ofNat]; omega)
  simp [answerWord, hw, show (a.toNat + 4 + 256 * b.toNat) / 256 = b.toNat by omega,
    show (a.toNat + 4 + 256 * b.toNat) / 16 % 16 = 0 by omega, show (a.toNat + 4 + 256 * b.toNat) / 4 % 4 = 1 by omega,
    show (a.toNat + 4 + 256 * b.toNat) / 2 % 2 = 0 by omega]

/-- Port bits 2: a flush answer a. -/
theorem answerWord_flush (a : BitVec 1) : answerWord (a.toNat + 8) = some (.flush a) := by revert a; decide

end Sys2Proof
end

