-- ==== Sys2Proof/Laws/State.lean ====
section
/-! SUPPORT. What each named update of the state does to each field of State, true by unfolding once; later proofs cite
these and unfold no record update. -/

namespace Sys2Proof.Machine.State

variable (s : State)

/-! record -/

@[simp] theorem record_cfg (e : Event) : (s.record e).cfg = s.cfg := rfl
@[simp] theorem record_staging (e : Event) : (s.record e).staging = s.staging := rfl
@[simp] theorem record_active (e : Event) : (s.record e).active = s.active := rfl
@[simp] theorem record_ops (e : Event) : (s.record e).ops = s.ops := rfl
@[simp] theorem record_ctl (e : Event) : (s.record e).ctl = s.ctl := rfl
@[simp] theorem record_parser (e : Event) : (s.record e).parser = s.parser := rfl
@[simp] theorem record_buf (e : Event) : (s.record e).buf = s.buf := rfl
@[simp] theorem record_frame (e : Event) : (s.record e).frame = s.frame := rfl
@[simp] theorem record_frameLen (e : Event) : (s.record e).frameLen = s.frameLen := rfl
@[simp] theorem record_line (e : Event) : (s.record e).line = s.line := rfl
@[simp] theorem record_res (e : Event) : (s.record e).res = s.res := rfl
@[simp] theorem record_env (e : Event) : (s.record e).env = { s.env with trace := s.env.trace ++ [e] } := rfl

/-! driveLine -/

@[simp] theorem driveLine_cfg (l : Level) : (s.driveLine l).cfg = s.cfg := rfl
@[simp] theorem driveLine_staging (l : Level) : (s.driveLine l).staging = s.staging := rfl
@[simp] theorem driveLine_active (l : Level) : (s.driveLine l).active = s.active := rfl
@[simp] theorem driveLine_ops (l : Level) : (s.driveLine l).ops = s.ops := rfl
@[simp] theorem driveLine_ctl (l : Level) : (s.driveLine l).ctl = s.ctl := rfl
@[simp] theorem driveLine_parser (l : Level) : (s.driveLine l).parser = s.parser := rfl
@[simp] theorem driveLine_buf (l : Level) : (s.driveLine l).buf = s.buf := rfl
@[simp] theorem driveLine_frame (l : Level) : (s.driveLine l).frame = s.frame := rfl
@[simp] theorem driveLine_frameLen (l : Level) : (s.driveLine l).frameLen = s.frameLen := rfl
@[simp] theorem driveLine_line (l : Level) : (s.driveLine l).line = l := rfl
@[simp] theorem driveLine_res (l : Level) : (s.driveLine l).res = s.res := rfl
@[simp] theorem driveLine_env (l : Level) : (s.driveLine l).env = { s.env with trace := s.env.trace ++ [.line l] } := rfl

/-! loadDelay -/

@[simp] theorem loadDelay_cfg (n : Word) : (s.loadDelay n).cfg = s.cfg := rfl
@[simp] theorem loadDelay_staging (n : Word) : (s.loadDelay n).staging = s.staging := rfl
@[simp] theorem loadDelay_active (n : Word) : (s.loadDelay n).active = s.active := rfl
@[simp] theorem loadDelay_ops (n : Word) : (s.loadDelay n).ops = s.ops := rfl
@[simp] theorem loadDelay_ctl (n : Word) : (s.loadDelay n).ctl = { s.ctl with dly := n } := rfl
@[simp] theorem loadDelay_parser (n : Word) : (s.loadDelay n).parser = s.parser := rfl
@[simp] theorem loadDelay_buf (n : Word) : (s.loadDelay n).buf = s.buf := rfl
@[simp] theorem loadDelay_frame (n : Word) : (s.loadDelay n).frame = s.frame := rfl
@[simp] theorem loadDelay_frameLen (n : Word) : (s.loadDelay n).frameLen = s.frameLen := rfl
@[simp] theorem loadDelay_line (n : Word) : (s.loadDelay n).line = s.line := rfl
@[simp] theorem loadDelay_res (n : Word) : (s.loadDelay n).res = s.res := rfl
@[simp] theorem loadDelay_env (n : Word) : (s.loadDelay n).env = { s.env with trace := s.env.trace ++ [.delay n] } := rfl

/-! setStep -/

@[simp] theorem setStep_cfg (k : BitVec 5) : (s.setStep k).cfg = s.cfg := rfl
@[simp] theorem setStep_staging (k : BitVec 5) : (s.setStep k).staging = s.staging := rfl
@[simp] theorem setStep_active (k : BitVec 5) : (s.setStep k).active = s.active := rfl
@[simp] theorem setStep_ops (k : BitVec 5) : (s.setStep k).ops = s.ops := rfl
@[simp] theorem setStep_ctl (k : BitVec 5) : (s.setStep k).ctl = { s.ctl with stepNo := k } := rfl
@[simp] theorem setStep_parser (k : BitVec 5) : (s.setStep k).parser = s.parser := rfl
@[simp] theorem setStep_buf (k : BitVec 5) : (s.setStep k).buf = s.buf := rfl
@[simp] theorem setStep_frame (k : BitVec 5) : (s.setStep k).frame = s.frame := rfl
@[simp] theorem setStep_frameLen (k : BitVec 5) : (s.setStep k).frameLen = s.frameLen := rfl
@[simp] theorem setStep_line (k : BitVec 5) : (s.setStep k).line = s.line := rfl
@[simp] theorem setStep_res (k : BitVec 5) : (s.setStep k).res = s.res := rfl
@[simp] theorem setStep_env (k : BitVec 5) : (s.setStep k).env = s.env := rfl

/-! setTxi -/

@[simp] theorem setTxi_cfg (k : BitVec 4) : (s.setTxi k).cfg = s.cfg := rfl
@[simp] theorem setTxi_staging (k : BitVec 4) : (s.setTxi k).staging = s.staging := rfl
@[simp] theorem setTxi_active (k : BitVec 4) : (s.setTxi k).active = s.active := rfl
@[simp] theorem setTxi_ops (k : BitVec 4) : (s.setTxi k).ops = s.ops := rfl
@[simp] theorem setTxi_ctl (k : BitVec 4) : (s.setTxi k).ctl = { s.ctl with txi := k } := rfl
@[simp] theorem setTxi_parser (k : BitVec 4) : (s.setTxi k).parser = s.parser := rfl
@[simp] theorem setTxi_buf (k : BitVec 4) : (s.setTxi k).buf = s.buf := rfl
@[simp] theorem setTxi_frame (k : BitVec 4) : (s.setTxi k).frame = s.frame := rfl
@[simp] theorem setTxi_frameLen (k : BitVec 4) : (s.setTxi k).frameLen = s.frameLen := rfl
@[simp] theorem setTxi_line (k : BitVec 4) : (s.setTxi k).line = s.line := rfl
@[simp] theorem setTxi_res (k : BitVec 4) : (s.setTxi k).res = s.res := rfl
@[simp] theorem setTxi_env (k : BitVec 4) : (s.setTxi k).env = s.env := rfl

/-! complete -/

@[simp] theorem complete_cfg (c : RCode) (n : BitVec 4) (k e : Byte) : (s.complete c n k e).cfg = s.cfg := rfl
@[simp] theorem complete_staging (c : RCode) (n : BitVec 4) (k e : Byte) : (s.complete c n k e).staging = s.staging := rfl
@[simp] theorem complete_active (c : RCode) (n : BitVec 4) (k e : Byte) : (s.complete c n k e).active = s.active := rfl
@[simp] theorem complete_ops (c : RCode) (n : BitVec 4) (k e : Byte) : (s.complete c n k e).ops = s.ops := rfl
@[simp] theorem complete_ctl (c : RCode) (n : BitVec 4) (k e : Byte) : (s.complete c n k e).ctl = { s.ctl with eng := .idle } := rfl
@[simp] theorem complete_parser (c : RCode) (n : BitVec 4) (k e : Byte) : (s.complete c n k e).parser = s.parser := rfl
@[simp] theorem complete_buf (c : RCode) (n : BitVec 4) (k e : Byte) : (s.complete c n k e).buf = s.buf := rfl
@[simp] theorem complete_frame (c : RCode) (n : BitVec 4) (k e : Byte) : (s.complete c n k e).frame = s.frame := rfl
@[simp] theorem complete_frameLen (c : RCode) (n : BitVec 4) (k e : Byte) : (s.complete c n k e).frameLen = s.frameLen := rfl
@[simp] theorem complete_line (c : RCode) (n : BitVec 4) (k e : Byte) : (s.complete c n k e).line = s.line := rfl
@[simp] theorem complete_res (c : RCode) (n : BitVec 4) (k e : Byte) :
    (s.complete c n k e).res = { s.res with done := true, code := c, count := n, chk := k, err := e } := rfl
@[simp] theorem complete_env (c : RCode) (n : BitVec 4) (k e : Byte) : (s.complete c n k e).env = s.env := rfl

/-! raiseFatal -/

@[simp] theorem raiseFatal_cfg (c : FatalCause) : (s.raiseFatal c).cfg = s.cfg := rfl
@[simp] theorem raiseFatal_staging (c : FatalCause) : (s.raiseFatal c).staging = s.staging := rfl
@[simp] theorem raiseFatal_active (c : FatalCause) : (s.raiseFatal c).active = s.active := rfl
@[simp] theorem raiseFatal_ops (c : FatalCause) : (s.raiseFatal c).ops = s.ops := rfl
@[simp] theorem raiseFatal_ctl (c : FatalCause) : (s.raiseFatal c).ctl = { s.ctl with eng := .halted } := rfl
@[simp] theorem raiseFatal_parser (c : FatalCause) : (s.raiseFatal c).parser = s.parser := rfl
@[simp] theorem raiseFatal_buf (c : FatalCause) : (s.raiseFatal c).buf = s.buf := rfl
@[simp] theorem raiseFatal_frame (c : FatalCause) : (s.raiseFatal c).frame = s.frame := rfl
@[simp] theorem raiseFatal_frameLen (c : FatalCause) : (s.raiseFatal c).frameLen = s.frameLen := rfl
@[simp] theorem raiseFatal_line (c : FatalCause) : (s.raiseFatal c).line = s.line := rfl
@[simp] theorem raiseFatal_res (c : FatalCause) : (s.raiseFatal c).res = { s.res with fatal := true, fatalCause := c } := rfl
@[simp] theorem raiseFatal_env (c : FatalCause) : (s.raiseFatal c).env = s.env := rfl

/-! dropResult -/

@[simp] theorem dropResult_cfg : s.dropResult.cfg = s.cfg := rfl
@[simp] theorem dropResult_staging : s.dropResult.staging = s.staging := rfl
@[simp] theorem dropResult_active : s.dropResult.active = s.active := rfl
@[simp] theorem dropResult_ops : s.dropResult.ops = s.ops := rfl
@[simp] theorem dropResult_ctl : s.dropResult.ctl = s.ctl := rfl
@[simp] theorem dropResult_parser : s.dropResult.parser = s.parser := rfl
@[simp] theorem dropResult_buf : s.dropResult.buf = s.buf := rfl
@[simp] theorem dropResult_frame : s.dropResult.frame = s.frame := rfl
@[simp] theorem dropResult_frameLen : s.dropResult.frameLen = s.frameLen := rfl
@[simp] theorem dropResult_line : s.dropResult.line = s.line := rfl
@[simp] theorem dropResult_res :
    s.dropResult.res = { s.res with done := false, code := .ok, count := 0, chk := 0, err := 0 } := rfl
@[simp] theorem dropResult_env : s.dropResult.env = s.env := rfl

/-! accept -/

@[simp] theorem accept_cfg (o : CurOp) : (s.accept o).cfg = s.cfg := rfl
@[simp] theorem accept_staging (o : CurOp) : (s.accept o).staging = s.staging := rfl
@[simp] theorem accept_active (o : CurOp) : (s.accept o).active = s.active := rfl
@[simp] theorem accept_ops (o : CurOp) : (s.accept o).ops = s.ops := rfl
@[simp] theorem accept_ctl (o : CurOp) : (s.accept o).ctl = { s.ctl with eng := .busy, curOp := o, stepNo := 0 } := rfl
@[simp] theorem accept_parser (o : CurOp) : (s.accept o).parser = s.parser := rfl
@[simp] theorem accept_buf (o : CurOp) : (s.accept o).buf = s.buf := rfl
@[simp] theorem accept_frame (o : CurOp) : (s.accept o).frame = s.frame := rfl
@[simp] theorem accept_frameLen (o : CurOp) : (s.accept o).frameLen = s.frameLen := rfl
@[simp] theorem accept_line (o : CurOp) : (s.accept o).line = s.line := rfl
@[simp] theorem accept_res (o : CurOp) :
    (s.accept o).res = { s.res with done := false, code := .ok, count := 0, chk := 0, err := 0 } := rfl
@[simp] theorem accept_env (o : CurOp) : (s.accept o).env = s.env := rfl

/-! installProfile -/

@[simp] theorem installProfile_cfg : s.installProfile.cfg = s.cfg := rfl
@[simp] theorem installProfile_staging : s.installProfile.staging = s.staging := rfl
@[simp] theorem installProfile_active : s.installProfile.active = s.staging := rfl
@[simp] theorem installProfile_ops : s.installProfile.ops = s.ops := rfl
@[simp] theorem installProfile_ctl : s.installProfile.ctl = s.ctl := rfl
@[simp] theorem installProfile_parser : s.installProfile.parser = s.parser := rfl
@[simp] theorem installProfile_buf : s.installProfile.buf = s.buf := rfl
@[simp] theorem installProfile_frame : s.installProfile.frame = s.frame := rfl
@[simp] theorem installProfile_frameLen : s.installProfile.frameLen = s.frameLen := rfl
@[simp] theorem installProfile_line : s.installProfile.line = s.line := rfl
@[simp] theorem installProfile_res : s.installProfile.res = s.res := rfl
@[simp] theorem installProfile_env : s.installProfile.env = s.env := rfl

/-! buildFrame -/

@[simp] theorem buildFrame_cfg : s.buildFrame.cfg = s.cfg := rfl
@[simp] theorem buildFrame_staging : s.buildFrame.staging = s.staging := rfl
@[simp] theorem buildFrame_active : s.buildFrame.active = s.active := rfl
@[simp] theorem buildFrame_ops : s.buildFrame.ops = s.ops := rfl
@[simp] theorem buildFrame_ctl : s.buildFrame.ctl = { s.ctl with txi := 0 } := rfl
@[simp] theorem buildFrame_parser : s.buildFrame.parser = s.parser := rfl
@[simp] theorem buildFrame_buf : s.buildFrame.buf = s.buf := rfl
@[simp] theorem buildFrame_frame : s.buildFrame.frame = s.ops.frameBytes := rfl
@[simp] theorem buildFrame_frameLen : s.buildFrame.frameLen = 3 + s.ops.len := rfl
@[simp] theorem buildFrame_line : s.buildFrame.line = s.line := rfl
@[simp] theorem buildFrame_res : s.buildFrame.res = s.res := rfl
@[simp] theorem buildFrame_env : s.buildFrame.env = s.env := rfl

/-! initParser -/

@[simp] theorem initParser_cfg : s.initParser.cfg = s.cfg := rfl
@[simp] theorem initParser_staging : s.initParser.staging = s.staging := rfl
@[simp] theorem initParser_active : s.initParser.active = s.active := rfl
@[simp] theorem initParser_ops : s.initParser.ops = s.ops := rfl
@[simp] theorem initParser_ctl : s.initParser.ctl = s.ctl := rfl
@[simp] theorem initParser_parser :
    s.initParser.parser = { phase := .awaitSync, syncSeen := false, count := 0, chk := 0, rxErrV := false, rxErr := 0 } := rfl
@[simp] theorem initParser_buf : s.initParser.buf = s.buf := rfl
@[simp] theorem initParser_frame : s.initParser.frame = s.frame := rfl
@[simp] theorem initParser_frameLen : s.initParser.frameLen = s.frameLen := rfl
@[simp] theorem initParser_line : s.initParser.line = s.line := rfl
@[simp] theorem initParser_res : s.initParser.res = s.res := rfl
@[simp] theorem initParser_env : s.initParser.env = s.env := rfl

/-! elapse -/

@[simp] theorem elapse_cfg (k : Nat) : (s.elapse k).cfg = s.cfg := rfl
@[simp] theorem elapse_staging (k : Nat) : (s.elapse k).staging = s.staging := rfl
@[simp] theorem elapse_active (k : Nat) : (s.elapse k).active = s.active := rfl
@[simp] theorem elapse_ops (k : Nat) : (s.elapse k).ops = s.ops := rfl
@[simp] theorem elapse_ctl (k : Nat) :
    (s.elapse k).ctl = { s.ctl with dly := BitVec.ofNat 32 (s.ctl.dly.toNat - k * s.cfg.period) } := rfl
@[simp] theorem elapse_parser (k : Nat) : (s.elapse k).parser = s.parser := rfl
@[simp] theorem elapse_buf (k : Nat) : (s.elapse k).buf = s.buf := rfl
@[simp] theorem elapse_frame (k : Nat) : (s.elapse k).frame = s.frame := rfl
@[simp] theorem elapse_frameLen (k : Nat) : (s.elapse k).frameLen = s.frameLen := rfl
@[simp] theorem elapse_line (k : Nat) : (s.elapse k).line = s.line := rfl
@[simp] theorem elapse_res (k : Nat) : (s.elapse k).res = s.res := rfl
@[simp] theorem elapse_env (k : Nat) : (s.elapse k).env = { s.env with clock := s.env.clock + k } := rfl

/-! passTime -/

@[simp] theorem passTime_cfg (k : Nat) : (s.passTime k).cfg = s.cfg := rfl
@[simp] theorem passTime_staging (k : Nat) : (s.passTime k).staging = s.staging := rfl
@[simp] theorem passTime_active (k : Nat) : (s.passTime k).active = s.active := rfl
@[simp] theorem passTime_ops (k : Nat) : (s.passTime k).ops = s.ops := rfl
@[simp] theorem passTime_ctl (k : Nat) : (s.passTime k).ctl = s.ctl := rfl
@[simp] theorem passTime_parser (k : Nat) : (s.passTime k).parser = s.parser := rfl
@[simp] theorem passTime_buf (k : Nat) : (s.passTime k).buf = s.buf := rfl
@[simp] theorem passTime_frame (k : Nat) : (s.passTime k).frame = s.frame := rfl
@[simp] theorem passTime_frameLen (k : Nat) : (s.passTime k).frameLen = s.frameLen := rfl
@[simp] theorem passTime_line (k : Nat) : (s.passTime k).line = s.line := rfl
@[simp] theorem passTime_res (k : Nat) : (s.passTime k).res = s.res := rfl
@[simp] theorem passTime_env (k : Nat) : (s.passTime k).env = { s.env with clock := s.env.clock + k } := rfl

/-! setTurns -/

@[simp] theorem setTurns_cfg (l : List Turn) : (s.setTurns l).cfg = s.cfg := rfl
@[simp] theorem setTurns_staging (l : List Turn) : (s.setTurns l).staging = s.staging := rfl
@[simp] theorem setTurns_active (l : List Turn) : (s.setTurns l).active = s.active := rfl
@[simp] theorem setTurns_ops (l : List Turn) : (s.setTurns l).ops = s.ops := rfl
@[simp] theorem setTurns_ctl (l : List Turn) : (s.setTurns l).ctl = s.ctl := rfl
@[simp] theorem setTurns_parser (l : List Turn) : (s.setTurns l).parser = s.parser := rfl
@[simp] theorem setTurns_buf (l : List Turn) : (s.setTurns l).buf = s.buf := rfl
@[simp] theorem setTurns_frame (l : List Turn) : (s.setTurns l).frame = s.frame := rfl
@[simp] theorem setTurns_frameLen (l : List Turn) : (s.setTurns l).frameLen = s.frameLen := rfl
@[simp] theorem setTurns_line (l : List Turn) : (s.setTurns l).line = s.line := rfl
@[simp] theorem setTurns_res (l : List Turn) : (s.setTurns l).res = s.res := rfl
@[simp] theorem setTurns_env (l : List Turn) : (s.setTurns l).env = { s.env with turns := l } := rfl

/-! setRdata -/

@[simp] theorem setRdata_cfg (d : Word) : (s.setRdata d).cfg = s.cfg := rfl
@[simp] theorem setRdata_staging (d : Word) : (s.setRdata d).staging = s.staging := rfl
@[simp] theorem setRdata_active (d : Word) : (s.setRdata d).active = s.active := rfl
@[simp] theorem setRdata_ops (d : Word) : (s.setRdata d).ops = s.ops := rfl
@[simp] theorem setRdata_ctl (d : Word) : (s.setRdata d).ctl = s.ctl := rfl
@[simp] theorem setRdata_parser (d : Word) : (s.setRdata d).parser = s.parser := rfl
@[simp] theorem setRdata_buf (d : Word) : (s.setRdata d).buf = s.buf := rfl
@[simp] theorem setRdata_frame (d : Word) : (s.setRdata d).frame = s.frame := rfl
@[simp] theorem setRdata_frameLen (d : Word) : (s.setRdata d).frameLen = s.frameLen := rfl
@[simp] theorem setRdata_line (d : Word) : (s.setRdata d).line = s.line := rfl
@[simp] theorem setRdata_res (d : Word) : (s.setRdata d).res = s.res := rfl
@[simp] theorem setRdata_env (d : Word) : (s.setRdata d).env = { s.env with rdata := d } := rfl

/-! setTxAns -/

@[simp] theorem setTxAns_cfg (l : List TxWord) : (s.setTxAns l).cfg = s.cfg := rfl
@[simp] theorem setTxAns_staging (l : List TxWord) : (s.setTxAns l).staging = s.staging := rfl
@[simp] theorem setTxAns_active (l : List TxWord) : (s.setTxAns l).active = s.active := rfl
@[simp] theorem setTxAns_ops (l : List TxWord) : (s.setTxAns l).ops = s.ops := rfl
@[simp] theorem setTxAns_ctl (l : List TxWord) : (s.setTxAns l).ctl = s.ctl := rfl
@[simp] theorem setTxAns_parser (l : List TxWord) : (s.setTxAns l).parser = s.parser := rfl
@[simp] theorem setTxAns_buf (l : List TxWord) : (s.setTxAns l).buf = s.buf := rfl
@[simp] theorem setTxAns_frame (l : List TxWord) : (s.setTxAns l).frame = s.frame := rfl
@[simp] theorem setTxAns_frameLen (l : List TxWord) : (s.setTxAns l).frameLen = s.frameLen := rfl
@[simp] theorem setTxAns_line (l : List TxWord) : (s.setTxAns l).line = s.line := rfl
@[simp] theorem setTxAns_res (l : List TxWord) : (s.setTxAns l).res = s.res := rfl
@[simp] theorem setTxAns_env (l : List TxWord) : (s.setTxAns l).env = { s.env with txAns := l } := rfl

/-! setFlushAns -/

@[simp] theorem setFlushAns_cfg (l : List (BitVec 1)) : (s.setFlushAns l).cfg = s.cfg := rfl
@[simp] theorem setFlushAns_staging (l : List (BitVec 1)) : (s.setFlushAns l).staging = s.staging := rfl
@[simp] theorem setFlushAns_active (l : List (BitVec 1)) : (s.setFlushAns l).active = s.active := rfl
@[simp] theorem setFlushAns_ops (l : List (BitVec 1)) : (s.setFlushAns l).ops = s.ops := rfl
@[simp] theorem setFlushAns_ctl (l : List (BitVec 1)) : (s.setFlushAns l).ctl = s.ctl := rfl
@[simp] theorem setFlushAns_parser (l : List (BitVec 1)) : (s.setFlushAns l).parser = s.parser := rfl
@[simp] theorem setFlushAns_buf (l : List (BitVec 1)) : (s.setFlushAns l).buf = s.buf := rfl
@[simp] theorem setFlushAns_frame (l : List (BitVec 1)) : (s.setFlushAns l).frame = s.frame := rfl
@[simp] theorem setFlushAns_frameLen (l : List (BitVec 1)) : (s.setFlushAns l).frameLen = s.frameLen := rfl
@[simp] theorem setFlushAns_line (l : List (BitVec 1)) : (s.setFlushAns l).line = s.line := rfl
@[simp] theorem setFlushAns_res (l : List (BitVec 1)) : (s.setFlushAns l).res = s.res := rfl
@[simp] theorem setFlushAns_env (l : List (BitVec 1)) : (s.setFlushAns l).env = { s.env with flushAns := l } := rfl

/-! setRxAns -/

@[simp] theorem setRxAns_cfg (l : List RxWord) : (s.setRxAns l).cfg = s.cfg := rfl
@[simp] theorem setRxAns_staging (l : List RxWord) : (s.setRxAns l).staging = s.staging := rfl
@[simp] theorem setRxAns_active (l : List RxWord) : (s.setRxAns l).active = s.active := rfl
@[simp] theorem setRxAns_ops (l : List RxWord) : (s.setRxAns l).ops = s.ops := rfl
@[simp] theorem setRxAns_ctl (l : List RxWord) : (s.setRxAns l).ctl = s.ctl := rfl
@[simp] theorem setRxAns_parser (l : List RxWord) : (s.setRxAns l).parser = s.parser := rfl
@[simp] theorem setRxAns_buf (l : List RxWord) : (s.setRxAns l).buf = s.buf := rfl
@[simp] theorem setRxAns_frame (l : List RxWord) : (s.setRxAns l).frame = s.frame := rfl
@[simp] theorem setRxAns_frameLen (l : List RxWord) : (s.setRxAns l).frameLen = s.frameLen := rfl
@[simp] theorem setRxAns_line (l : List RxWord) : (s.setRxAns l).line = s.line := rfl
@[simp] theorem setRxAns_res (l : List RxWord) : (s.setRxAns l).res = s.res := rfl
@[simp] theorem setRxAns_env (l : List RxWord) : (s.setRxAns l).env = { s.env with rxAns := l } := rfl

/-! setPhase -/

@[simp] theorem setPhase_cfg (p : Phase) : (s.setPhase p).cfg = s.cfg := rfl
@[simp] theorem setPhase_staging (p : Phase) : (s.setPhase p).staging = s.staging := rfl
@[simp] theorem setPhase_active (p : Phase) : (s.setPhase p).active = s.active := rfl
@[simp] theorem setPhase_ops (p : Phase) : (s.setPhase p).ops = s.ops := rfl
@[simp] theorem setPhase_ctl (p : Phase) : (s.setPhase p).ctl = s.ctl := rfl
@[simp] theorem setPhase_parser (p : Phase) : (s.setPhase p).parser = { s.parser with phase := p } := rfl
@[simp] theorem setPhase_buf (p : Phase) : (s.setPhase p).buf = s.buf := rfl
@[simp] theorem setPhase_frame (p : Phase) : (s.setPhase p).frame = s.frame := rfl
@[simp] theorem setPhase_frameLen (p : Phase) : (s.setPhase p).frameLen = s.frameLen := rfl
@[simp] theorem setPhase_line (p : Phase) : (s.setPhase p).line = s.line := rfl
@[simp] theorem setPhase_res (p : Phase) : (s.setPhase p).res = s.res := rfl
@[simp] theorem setPhase_env (p : Phase) : (s.setPhase p).env = s.env := rfl

/-! syncMatched -/

@[simp] theorem syncMatched_cfg : s.syncMatched.cfg = s.cfg := rfl
@[simp] theorem syncMatched_staging : s.syncMatched.staging = s.staging := rfl
@[simp] theorem syncMatched_active : s.syncMatched.active = s.active := rfl
@[simp] theorem syncMatched_ops : s.syncMatched.ops = s.ops := rfl
@[simp] theorem syncMatched_ctl : s.syncMatched.ctl = s.ctl := rfl
@[simp] theorem syncMatched_parser :
    s.syncMatched.parser = { s.parser with syncSeen := true, phase := .awaitId } := rfl
@[simp] theorem syncMatched_buf : s.syncMatched.buf = s.buf := rfl
@[simp] theorem syncMatched_frame : s.syncMatched.frame = s.frame := rfl
@[simp] theorem syncMatched_frameLen : s.syncMatched.frameLen = s.frameLen := rfl
@[simp] theorem syncMatched_line : s.syncMatched.line = s.line := rfl
@[simp] theorem syncMatched_res : s.syncMatched.res = s.res := rfl
@[simp] theorem syncMatched_env : s.syncMatched.env = s.env := rfl

/-! copyByte -/

@[simp] theorem copyByte_cfg (b : Byte) : (s.copyByte b).cfg = s.cfg := rfl
@[simp] theorem copyByte_staging (b : Byte) : (s.copyByte b).staging = s.staging := rfl
@[simp] theorem copyByte_active (b : Byte) : (s.copyByte b).active = s.active := rfl
@[simp] theorem copyByte_ops (b : Byte) : (s.copyByte b).ops = s.ops := rfl
@[simp] theorem copyByte_ctl (b : Byte) : (s.copyByte b).ctl = s.ctl := rfl
@[simp] theorem copyByte_parser (b : Byte) : (s.copyByte b).parser = { s.parser with count := s.parser.count + 1 } := rfl
@[simp] theorem copyByte_buf (b : Byte) : (s.copyByte b).buf = s.buf.setIfInBounds s.parser.count.toNat b := rfl
@[simp] theorem copyByte_frame (b : Byte) : (s.copyByte b).frame = s.frame := rfl
@[simp] theorem copyByte_frameLen (b : Byte) : (s.copyByte b).frameLen = s.frameLen := rfl
@[simp] theorem copyByte_line (b : Byte) : (s.copyByte b).line = s.line := rfl
@[simp] theorem copyByte_res (b : Byte) : (s.copyByte b).res = s.res := rfl
@[simp] theorem copyByte_env (b : Byte) : (s.copyByte b).env = s.env := rfl

/-! captureChk -/

@[simp] theorem captureChk_cfg (b : Byte) : (s.captureChk b).cfg = s.cfg := rfl
@[simp] theorem captureChk_staging (b : Byte) : (s.captureChk b).staging = s.staging := rfl
@[simp] theorem captureChk_active (b : Byte) : (s.captureChk b).active = s.active := rfl
@[simp] theorem captureChk_ops (b : Byte) : (s.captureChk b).ops = s.ops := rfl
@[simp] theorem captureChk_ctl (b : Byte) : (s.captureChk b).ctl = s.ctl := rfl
@[simp] theorem captureChk_parser (b : Byte) : (s.captureChk b).parser = { s.parser with chk := b, phase := .done } := rfl
@[simp] theorem captureChk_buf (b : Byte) : (s.captureChk b).buf = s.buf := rfl
@[simp] theorem captureChk_frame (b : Byte) : (s.captureChk b).frame = s.frame := rfl
@[simp] theorem captureChk_frameLen (b : Byte) : (s.captureChk b).frameLen = s.frameLen := rfl
@[simp] theorem captureChk_line (b : Byte) : (s.captureChk b).line = s.line := rfl
@[simp] theorem captureChk_res (b : Byte) : (s.captureChk b).res = s.res := rfl
@[simp] theorem captureChk_env (b : Byte) : (s.captureChk b).env = s.env := rfl

/-! readError -/

@[simp] theorem readError_cfg (e : Byte) : (s.readError e).cfg = s.cfg := rfl
@[simp] theorem readError_staging (e : Byte) : (s.readError e).staging = s.staging := rfl
@[simp] theorem readError_active (e : Byte) : (s.readError e).active = s.active := rfl
@[simp] theorem readError_ops (e : Byte) : (s.readError e).ops = s.ops := rfl
@[simp] theorem readError_ctl (e : Byte) : (s.readError e).ctl = s.ctl := rfl
@[simp] theorem readError_parser (e : Byte) : (s.readError e).parser = { s.parser with rxErrV := true, rxErr := e } := rfl
@[simp] theorem readError_buf (e : Byte) : (s.readError e).buf = s.buf := rfl
@[simp] theorem readError_frame (e : Byte) : (s.readError e).frame = s.frame := rfl
@[simp] theorem readError_frameLen (e : Byte) : (s.readError e).frameLen = s.frameLen := rfl
@[simp] theorem readError_line (e : Byte) : (s.readError e).line = s.line := rfl
@[simp] theorem readError_res (e : Byte) : (s.readError e).res = s.res := rfl
@[simp] theorem readError_env (e : Byte) : (s.readError e).env = s.env := rfl

end Sys2Proof.Machine.State
end

