-- ==== Sys2Proof/Laws/Operands.lean ====
section
/-! SUPPORT. One lemma per operand form: what each duration function and the frame assembly answer, said once. -/

namespace Sys2Proof.Machine

@[simp] theorem period_pos (c : Config) : 0 < c.period := by simp only [Config.period]; omega

/-- The speed code has four values, and the table has a row for each. -/
theorem speed_cases (v : BitVec 2) : v = 0 ∨ v = 1 ∨ v = 2 ∨ v = 3 := by revert v; decide

theorem bitNs_bounds (p : Profile) : 50000 ≤ p.bitNs ∧ p.bitNs ≤ 104166 := by
  rcases speed_cases p.speed with h | h | h | h <;> simp [Profile.bitNs, baudRate, h]

theorem breakBits_bounds (p : Profile) : 13 ≤ p.breakBits ∧ p.breakBits ≤ 268 := by
  have := p.brkExtra.isLt
  simp only [Profile.breakBits]
  split <;> omega

/-- A defined product fits 32 bits (R150). -/
theorem product32_lt {n : Word} {unit k : Nat} (h : product32 n unit = some k) : k < 4294967296 := by
  by_cases hf : n.toNat * unit < 4294967296 <;> simp [product32, fits32, hf] at h
  omega

/-- A defined response timeout or inter-frame space fits 32 bits (R145, R146). -/
theorem policyNs_lt {sel : BitVec 2} {n : Word} {k : Nat} (h : policyNs sel n = some k) : k < 4294967296 := by
  rcases speed_cases sel with e | e | e | e <;> subst e <;> simp [policyNs] at h
  · omega
  · exact product32_lt h
  · exact product32_lt h

theorem wakeupNs_lt {p : Profile} {k : Nat} (h : p.wakeupNs = some k) : k < 4294967296 := by
  have := p.wakeNs.isLt
  rcases speed_cases p.wakeSel with e | e | e | e <;> simp [Profile.wakeupNs, e] at h <;> omega

/-- A duration that fits 32 bits is loaded into DLY unchanged. -/
theorem toNat_ofNat_of_lt {n : Nat} (h : n < 4294967296) : (BitVec.ofNat 32 n).toNat = n := by
  simp only [BitVec.toNat_ofNat]
  omega

theorem breakNs_lt (p : Profile) : p.breakNs < 4294967296 := by
  have h1 := bitNs_bounds p
  have h2 := breakBits_bounds p
  have : p.bitNs * p.breakBits ≤ 104166 * 268 := Nat.mul_le_mul h1.2 h2.2
  simp only [Profile.breakNs]
  omega

theorem bitNs_lt (p : Profile) : p.bitNs < 4294967296 := by
  have := (bitNs_bounds p).2
  omega

/-- Counting down over the periods that a delay takes reaches 0 (R318). -/
theorem periodsFor_mul_ge (c : Config) (n : Nat) : n ≤ periodsFor c n * c.period := by
  have hp := period_pos c
  have h := Nat.div_add_mod (n + c.period - 1) c.period
  have h2 := Nat.mod_lt (n + c.period - 1) hp
  rw [Nat.mul_comm] at h
  simp only [periodsFor]
  omega

theorem periodsFor_zero (c : Config) : periodsFor c 0 = 0 := by
  have hp := period_pos c
  simp only [periodsFor, Nat.zero_add]
  exact Nat.div_eq_of_lt (by omega)

/-- The length of a legal frame: 3 + n without a carry out of four bits (R39, R101). -/
theorem frameLen_toNat {n : BitVec 4} (h : n.toNat ≤ 8) : (3 + n).toNat = 3 + n.toNat := by
  have h3 : (3 : BitVec 4).toNat = 3 := rfl
  simp only [BitVec.toNat_add, h3]
  omega

/-- The bytes of a frame in order (R101): sync, id, the n data bytes, the checksum. -/
def Operands.frameList (o : Operands) : List Byte :=
  [syncByte, o.id] ++ o.data.toList.take o.len.toNat ++ [o.chk]

/-- `FRAME[i]` for every position (R183). -/
theorem frameBytes_get (o : Operands) (i : Nat) (h : i < 11) : o.frameBytes[i]? = some (o.frameByte i) := by
  interval_cases i <;> rfl

end Sys2Proof.Machine
end

