-- ==== Sys2Proof/Laws/Ops.lean ====
section
/-! SUPPORT. One lemma per shared operation: everything it can answer. Later proofs cite these and unfold no operation. -/

namespace Sys2Proof.Machine

theorem onIdle_of_idle {f : State → State} {s : State} (h : s.ctl.eng = .idle) : onIdle f s = .next (f s) := by
  simp [onIdle, h]

theorem onIdle_of_not_idle {f : State → State} {s : State} (h : s.ctl.eng ≠ .idle) : onIdle f s = .next s := by
  simp [onIdle, h]

/-- All that a command word can do: its own effect in IDLE, nothing outside (R33, R105). -/
theorem onIdle_cases {f : State → State} {s t : State} (h : onIdle f s = .next t) :
    (s.ctl.eng = .idle ∧ t = f s) ∨ (s.ctl.eng ≠ .idle ∧ t = s) := by
  by_cases hi : s.ctl.eng = .idle
  · rw [onIdle_of_idle hi] at h; exact .inl ⟨hi, (Host.Outcome.next.inj h).symm⟩
  · rw [onIdle_of_not_idle hi] at h; exact .inr ⟨hi, (Host.Outcome.next.inj h).symm⟩

theorem onTx_of_action {f : Byte → Bool → State → State} {s : State} {b : Byte} {m : Bool} (h : s.action = .tx b m) :
    onTx f s = .next (f b m s) := by simp [onTx, h]

/-- All that an answer to TxByte can do (R111). -/
theorem onTx_cases {f : Byte → Bool → State → State} {s t : State} (h : onTx f s = .next t) :
    ∃ b m, s.action = .tx b m ∧ t = f b m s := by
  simp only [onTx] at h
  split at h
  · rename_i b m e; exact ⟨b, m, e, (Host.Outcome.next.inj h).symm⟩
  · cases h

theorem onFlush_of_action {f : State → State} {s : State} (h : s.action = .flush) : onFlush f s = .next (f s) := by
  simp [onFlush, h]

/-- All that an answer to Flush can do (R113). -/
theorem onFlush_cases {f : State → State} {s t : State} (h : onFlush f s = .next t) :
    s.action = .flush ∧ t = f s := by
  simp only [onFlush] at h
  split at h
  · rename_i e; exact ⟨e, (Host.Outcome.next.inj h).symm⟩
  · cases h

theorem onPoll_of_guard {i : Instr} {a : RxAnswer} {f : State → State} {s : State} (hp : s.polling = true)
    (hw : i.wellFormed = true) (hg : i.guard s.view = true) : onPoll i a f s = .next (f (s.record (.rx a))) := by
  simp [onPoll, hp, hw, hg]

/-- All that an answer to RxPoll can do (R202 to R210). -/
theorem onPoll_cases {i : Instr} {a : RxAnswer} {f : State → State} {s t : State} (h : onPoll i a f s = .next t) :
    s.polling = true ∧ i.wellFormed = true ∧ i.guard s.view = true ∧ t = f (s.record (.rx a)) := by
  simp only [onPoll] at h
  split at h
  · cases h
  · rename_i hp
    split at h
    · rename_i hg
      simp only [Bool.and_eq_true] at hg
      exact ⟨by simpa using hp, hg.1, hg.2, (Host.Outcome.next.inj h).symm⟩
    · cases h

@[simp] theorem rxNext_of_cons {s : State} {w : RxWord} {rest : List RxWord} (h : s.env.rxAns = w :: rest) :
    s.rxNext = some (w, rest) := by simp [State.rxNext, h]

/-- The list of answers is used up: the first of the repeated ones comes next (R311). -/
theorem rxNext_of_loop {s : State} {w : RxWord} {rest : List RxWord} (h : s.env.rxAns = []) (hl : s.env.rxLoop = w :: rest) :
    s.rxNext = some (w, rest) := by simp [State.rxNext, h, hl]

/-- The transport has not answered (R107). -/
theorem rxNext_none_iff (s : State) : s.rxNext = none ↔ s.env.rxAns = [] ∧ s.env.rxLoop = [] := by
  cases h : s.env.rxAns <;> cases hl : s.env.rxLoop <;> simp [State.rxNext, h, hl]

/-- An answer that is taken is one of the list or one of the repeated ones, and so are those left in its list. -/
theorem rxNext_mem {s : State} {w : RxWord} {rest : List RxWord} (h : s.rxNext = some (w, rest)) :
    w :: rest = s.env.rxAns ∨ (s.env.rxAns = [] ∧ w :: rest = s.env.rxLoop) := by
  cases ha : s.env.rxAns <;> cases hl : s.env.rxLoop <;> simp_all [State.rxNext]

theorem lengthLegal_iff (o : Operands) : o.lengthLegal = true ↔ 1 ≤ o.len.toNat ∧ o.len.toNat ≤ 8 := by
  simp [Operands.lengthLegal]

/-- When the prechecks pass (R166, R182, R241). -/
theorem precheckSendWakeup_none_iff (s : State) :
    precheckSendWakeup s = .none ↔ ∃ n, s.active.wakeupNs = some n ∧ n ≤ 5000000 := by
  simp only [precheckSendWakeup]
  cases h : s.active.wakeupNs with
  | none => simp
  | some n => by_cases hn : n ≤ 5000000 <;> simp [hn]

theorem precheckSendFrame_none_iff (s : State) :
    precheckSendFrame s = .none ↔ 1 ≤ s.ops.len.toNat ∧ s.ops.len.toNat ≤ 8 ∧ ∃ d, s.active.ifsNs = some d := by
  have h := lengthLegal_iff s.ops
  cases hl : s.ops.lengthLegal <;> cases hi : s.active.ifsNs <;> simp_all [precheckSendFrame]

theorem precheckReadFrame_none_iff (s : State) :
    precheckReadFrame s = .none ↔ 1 ≤ s.ops.len.toNat ∧ s.ops.len.toNat ≤ 8 ∧
      (∃ d, s.active.ifsNs = some d) ∧ ∃ r, s.active.rtoNs = some r := by
  have h := lengthLegal_iff s.ops
  cases hl : s.ops.lengthLegal <;> cases hi : s.active.ifsNs <;> cases hr : s.active.rtoNs <;>
    simp_all [precheckReadFrame]

/-- The length test fails outside 1 to 8, before any other (R259). -/
theorem lengthLegal_false {o : Operands} (h : o.len.toNat = 0 ∨ 8 < o.len.toNat) : o.lengthLegal = false := by
  have h2 := lengthLegal_iff o
  cases hl : o.lengthLegal <;> simp_all
  omega

/-- Serving a delay brings DLY to 0 and moves the clock on by the periods that the delay takes (R318). -/
theorem serveDelay_eq (s : State) :
    s.serveDelay = { s with
      ctl := { s.ctl with dly := 0 }
      env := { s.env with clock := s.env.clock + periodsFor s.cfg s.ctl.dly.toNat } } := by
  have h := periodsFor_mul_ge s.cfg s.ctl.dly.toNat
  have h0 : s.ctl.dly.toNat - periodsFor s.cfg s.ctl.dly.toNat * s.cfg.period = 0 := by omega
  simp only [State.serveDelay, State.elapse, State.periodsLeft, h0]
  rfl

/-- The result selection writes the result and leaves IDLE; nothing else changes (R240, R24). -/
theorem selectResult_eq (s : State) :
    ∃ c n k e, s.selectResult = s.complete c n k e := by
  simp only [State.selectResult]
  split
  · exact ⟨_, _, _, _, rfl⟩
  · split <;> exact ⟨_, _, _, _, rfl⟩

end Sys2Proof.Machine
end

