-- ==== Sys2Proof/Laws/Registers.lean ====
section
/-! SUPPORT. The register file read and written: what each range of register numbers reads (10_state.md R56), what a write
can do, and what a profile register gives back (R32, R34). -/

namespace Sys2Proof.Machine

/-! ### Masks of a word's low bits -/

theorem and_low_eq (d : Word) (k : Nat) (m : Word) (hm : m.toNat = 2 ^ k - 1) :
    (d &&& m).toNat = d.toNat % 2 ^ k := by
  rw [BitVec.toNat_and, hm, Nat.and_two_pow_sub_one_eq_mod]

theorem and_3 (d : Word) : d &&& 0x3 = (d.setWidth 2).setWidth 32 := by
  apply BitVec.eq_of_toNat_eq
  rw [and_low_eq d 2 _ rfl]
  simp only [BitVec.toNat_setWidth]
  omega

theorem and_f (d : Word) : d &&& 0xF = (d.setWidth 4).setWidth 32 := by
  apply BitVec.eq_of_toNat_eq
  rw [and_low_eq d 4 _ rfl]
  simp only [BitVec.toNat_setWidth]
  omega

theorem and_ff (d : Word) : d &&& 0xFF = (d.setWidth 8).setWidth 32 := by
  apply BitVec.eq_of_toNat_eq
  rw [and_low_eq d 8 _ rfl]
  simp only [BitVec.toNat_setWidth]
  omega

/-! ### The break register's two fields (R34) -/

theorem toNat_brkWord (a : BitVec 1) (b : Byte) : ((a ++ b).setWidth 32).toNat = a.toNat * 256 + b.toNat := by
  have ha := a.isLt
  have hb := b.isLt
  simp only [BitVec.toNat_setWidth, BitVec.toNat_append, Nat.shiftLeft_eq]
  rw [show a.toNat * 2 ^ 8 ||| b.toNat = a.toNat * 2 ^ 8 + b.toNat by
    rw [← Nat.shiftLeft_eq, Nat.shiftLeft_add_eq_or_of_lt hb]]
  omega

@[simp] theorem brkSel_of_word (a : BitVec 1) (b : Byte) : ((a ++ b).setWidth 32).extractLsb' 8 1 = a := by
  apply BitVec.eq_of_toNat_eq
  have ha := a.isLt
  have hb := b.isLt
  simp only [BitVec.extractLsb'_toNat, toNat_brkWord, Nat.shiftRight_eq_div_pow]
  omega

@[simp] theorem brkExtra_of_append (a : BitVec 1) (b : Byte) : (a ++ b).setWidth 8 = b := by
  apply BitVec.eq_of_toNat_eq
  have h := toNat_brkWord a b
  have hb := b.isLt
  simp only [BitVec.toNat_setWidth] at h ⊢
  have := (a ++ b).isLt
  omega

/-- The break register read back after a write (R32, R34): bits [8:0] of the word. -/
theorem brk_word_of_write (d : Word) : ((d.extractLsb' 8 1) ++ (d.setWidth 8)).setWidth 32 = d &&& 0x1FF := by
  apply BitVec.eq_of_toNat_eq
  rw [and_low_eq d 9 _ rfl, toNat_brkWord]
  simp only [BitVec.extractLsb'_toNat, BitVec.toNat_setWidth, Nat.shiftRight_eq_div_pow]
  omega

/-! ### A profile bank -/

/-- Writing the eight words of q into any profile gives q (R34; 30_encoding.md R124). -/
theorem setWord_words (p q : Profile) :
    (((((((((p.setWord 0 (q.word 0)).setWord 1 (q.word 1)).setWord 2 (q.word 2)).setWord 3 (q.word 3)).setWord 4
      (q.word 4)).setWord 5 (q.word 5)).setWord 6 (q.word 6)).setWord 7 (q.word 7))) = q := by
  simp [Profile.setWord, Profile.word]

/-- A write to one register of a bank leaves the other seven as they are. -/
theorem word_setWord_other (p : Profile) {k j : Nat} (d : Word) (h : j ≠ k) : (p.setWord k d).word j = p.word j := by
  by_cases hk : k < 8
  · by_cases hj : j < 8
    · interval_cases k <;> interval_cases j <;> first | rfl | exact absurd rfl h
    · have h1 : ∀ q : Profile, q.word j = 0 := by
        intro q
        simp only [Profile.word]
        split <;> first | omega | rfl
      rw [h1, h1]
  · have : p.setWord k d = p := by
      simp only [Profile.setWord]
      split <;> first | omega | rfl
    rw [this]

/-! ### What each range of numbers reads (R56) -/

variable (s : State)

theorem readReg_staging {a : BitVec 6} (h : a.toNat < 8) : s.readReg a = s.staging.word a.toNat := by
  simp [State.readReg, h]

theorem readReg_data {a : BitVec 6} (h : 16 ≤ a.toNat) (h2 : a.toNat < 24) :
    s.readReg a = byteWord s.ops.data (a.toNat - 16) := by
  simp only [State.readReg]
  generalize a.toNat = n at *
  interval_cases n <;> rfl

/-- A read of a number outside the read-write registers does not see the read-write registers. -/
theorem readReg_readOnly {a : BitVec 6} (h : (11 ≤ a.toNat ∧ a.toNat < 16) ∨ 24 ≤ a.toNat) (p : Profile) (o : Operands) :
    ({ s with staging := p, ops := o } : State).readReg a = s.readReg a := by
  have hl := a.isLt
  simp only [State.readReg]
  generalize a.toNat = n at *
  interval_cases n <;> first | rfl | omega

/-- All that a write in IDLE can store (R34, R36, R37). -/
theorem storeReg_cases (a : BitVec 6) (d : Word) :
    (a.toNat < 8 ∧ s.storeReg a d = { s with staging := s.staging.setWord a.toNat d }) ∨
    (a = 8 ∧ s.storeReg a d = { s with ops := { s.ops with id := d.setWidth 8 } }) ∨
    (a = 9 ∧ s.storeReg a d = { s with ops := { s.ops with len := d.setWidth 4 } }) ∨
    (a = 10 ∧ s.storeReg a d = { s with ops := { s.ops with chk := d.setWidth 8 } }) ∨
    (16 ≤ a.toNat ∧ a.toNat < 24 ∧ s.storeReg a d =
      { s with ops := { s.ops with data := s.ops.data.setIfInBounds (a.toNat - 16) (d.setWidth 8) } }) ∨
    (((11 ≤ a.toNat ∧ a.toNat < 16) ∨ 24 ≤ a.toNat) ∧ s.storeReg a d = s) := by
  have eq : ∀ k : Nat, k < 64 → a.toNat = k → a = BitVec.ofNat 6 k := by
    intro k hk h
    exact BitVec.eq_of_toNat_eq (by simp only [BitVec.toNat_ofNat]; omega)
  simp only [State.storeReg]
  split
  · rename_i h; exact .inl ⟨h, rfl⟩
  split
  · rename_i h; exact .inr (.inl ⟨eq 8 (by omega) h, rfl⟩)
  split
  · rename_i h; exact .inr (.inr (.inl ⟨eq 9 (by omega) h, rfl⟩))
  split
  · rename_i h; exact .inr (.inr (.inr (.inl ⟨eq 10 (by omega) h, rfl⟩)))
  split
  · rename_i h; exact .inr (.inr (.inr (.inr (.inl ⟨h.1, h.2, rfl⟩))))
  · exact .inr (.inr (.inr (.inr (.inr ⟨by omega, rfl⟩))))

end Sys2Proof.Machine
end

