-- ==== Sys2Proof/Laws/Sequencer.lean ====
section
/-! SUPPORT. The action lists read off row by row, and what the beginning of an action can do. -/

namespace Sys2Proof.Machine

/-- Only a BUSY engine has an action under way (R41). -/
theorem busy_of_action {s : State} (h : s.action ≠ .none) : s.ctl.eng = .busy := by
  cases he : s.ctl.eng <;> simp [State.action, he] at h ⊢

theorem action_of_not_busy {s : State} (h : s.ctl.eng ≠ .busy) : s.action = .none := by
  cases he : s.ctl.eng <;> simp [State.action, he] at h ⊢

/-- The action of a BUSY engine, by its command's list (R42). -/
theorem action_sendBreak {s : State} (hb : s.ctl.eng = .busy) (ho : s.ctl.curOp = .sendBreak) :
    s.action = sendBreakAction s s.ctl.stepNo.toNat := by simp [State.action, hb, ho]

theorem action_sendWakeup {s : State} (hb : s.ctl.eng = .busy) (ho : s.ctl.curOp = .sendWakeup) :
    s.action = sendWakeupAction s s.ctl.stepNo.toNat := by simp [State.action, hb, ho]

theorem action_sendFrame {s : State} (hb : s.ctl.eng = .busy) (ho : s.ctl.curOp = .sendFrame) :
    s.action = sendFrameAction s s.ctl.stepNo.toNat := by simp [State.action, hb, ho]

theorem action_readFrame {s : State} (hb : s.ctl.eng = .busy) (ho : s.ctl.curOp = .readFrame) :
    s.action = readFrameAction s s.ctl.stepNo.toNat := by simp [State.action, hb, ho]

/-- Polling is the parse loop of READ_FRAME, not yet Done (R211, R212). -/
theorem polling_iff (s : State) :
    s.polling = true ↔
      s.ctl.eng = .busy ∧ s.ctl.curOp = .readFrame ∧ s.ctl.stepNo = 9 ∧ s.parser.phase ≠ .done := by
  simp only [State.polling, Bool.and_eq_true, beq_iff_eq, bne_iff_ne]
  constructor
  · rintro ⟨ha, hd⟩
    have hb : s.ctl.eng = .busy := busy_of_action (by rw [ha]; simp)
    refine ⟨hb, ?_⟩
    cases ho : s.ctl.curOp <;> simp only [State.action, hb, ho] at ha
    · cases ha
    · cases ha
    · simp only [sendBreakAction, breakAction, pulseAction] at ha; split at ha <;> cases ha
    · simp only [sendWakeupAction, pulseAction] at ha; split at ha <;> cases ha
    · simp only [sendFrameAction, breakAction, pulseAction] at ha; split at ha <;> cases ha
    · refine ⟨rfl, ?_, hd⟩
      simp only [readFrameAction, breakAction, pulseAction] at ha
      split at ha <;> try cases ha
      rename_i e
      exact BitVec.eq_of_toNat_eq (by simpa using e)
  · rintro ⟨hb, ho, hk, hd⟩
    exact ⟨by simp [State.action, hb, ho, hk, readFrameAction], hd⟩

/-- What the beginning of an action leaves alone, whatever the action: the parameters, both profiles, the operands,
BUF, and CUR_OP and STEP (R22, R23). -/
theorem begin_keeps (s : State) (a : Action) :
    (s.begin a).cfg = s.cfg ∧ (s.begin a).staging = s.staging ∧ (s.begin a).active = s.active ∧
    (s.begin a).ops = s.ops ∧ (s.begin a).buf = s.buf ∧ (s.begin a).ctl.curOp = s.ctl.curOp ∧
    (s.begin a).ctl.stepNo = s.ctl.stepNo := by
  cases a with
  | delay n => cases n <;> simp [State.begin]
  | select =>
    obtain ⟨c, n, k, e, h⟩ := selectResult_eq s
    simp [State.begin, h]
  | _ => simp [State.begin]

/-- The parser's registers are written at the beginning of an action by the parse loop alone (R201, R238). -/
theorem begin_parser (s : State) {a : Action} (h : a ≠ .parse) : (s.begin a).parser = s.parser := by
  cases a with
  | delay n => cases n <;> simp [State.begin]
  | select =>
    obtain ⟨c, n, k, e, h⟩ := selectResult_eq s
    simp [State.begin, h]
  | parse => exact absurd rfl h
  | _ => simp [State.begin]

/-- The parse loop is STEP 9 of READ_FRAME and no other (R231). -/
theorem step9_of_parse {s : State} (h : s.action = .parse) :
    s.ctl.eng = .busy ∧ s.ctl.curOp = .readFrame ∧ s.ctl.stepNo = 9 := by
  have hs : ({ s with parser := { s.parser with phase := .awaitSync } } : State).action = .parse := by
    rw [← h]
    simp [State.action, sendBreakAction, sendWakeupAction, sendFrameAction, readFrameAction, breakAction, State.frameAtTxi]
  obtain ⟨hb, ho, hk, -⟩ := (polling_iff { s with parser := { s.parser with phase := .awaitSync } }).1
    (by simp [State.polling, hs])
  exact ⟨hb, ho, hk⟩

/-- Going on to the next STEP leaves the parser's registers, but from READ_FRAME's STEP 8, where it initialises them. -/
theorem nextStep_parser (s : State) :
    s.nextStep.parser = s.parser ∨
    (s.ctl.eng = .busy ∧ s.ctl.curOp = .readFrame ∧ s.ctl.stepNo = 8 ∧ s.nextStep.ctl.stepNo = 9 ∧
      s.nextStep.parser = { phase := .awaitSync, syncSeen := false, count := 0, chk := 0, rxErrV := false, rxErr := 0 }) := by
  simp only [State.nextStep, State.enterStep]
  by_cases h : (s.setStep (s.ctl.stepNo + 1)).action = .parse
  · obtain ⟨hb, ho, hk⟩ := step9_of_parse h
    have h8 : ∀ k : BitVec 5, k + 1 = 9 → k = 8 := by decide
    exact .inr ⟨by simpa using hb, by simpa using ho, h8 _ (by simpa using hk), by rw [h]; simpa [State.begin] using hk,
      by rw [h]; simp [State.begin]⟩
  · exact .inl (begin_parser _ h)

end Sys2Proof.Machine
end

