-- ==== Sys2Proof/Laws/Step.lean ====
section
/-! SUPPORT. What a step does with and without a turn of the world outside, and how steps are chained into a run. -/

namespace Sys2Proof.Machine

theorem step_of_no_turn {s : State} (h : s.env.turns = []) (hh : s.ctl.eng ≠ .halted) : step s = engineMove s := by
  cases he : s.ctl.eng <;> simp_all [step, ownStep]

theorem step_of_turn {s : State} {t : Turn} {rest : List Turn} (h : s.env.turns = t :: rest) :
    step s = turnStep t rest s := by simp [step, h]

theorem engineMove_of_not_busy {s : State} (h : s.ctl.eng ≠ .busy) : engineMove s = .next s := by
  cases he : s.ctl.eng <;> simp_all [engineMove]

/-- The moves that need no answer (R42): a line or build action ends, a delay is served, and the next action begins. -/
theorem engineMove_line {s : State} {l : Level} (h : s.action = .line l) : engineMove s = .next s.nextStep := by
  have hb := busy_of_action (s := s) (by rw [h]; simp)
  simp [engineMove, hb, h]

theorem engineMove_build {s : State} (h : s.action = .build) : engineMove s = .next s.nextStep := by
  have hb := busy_of_action (s := s) (by rw [h]; simp)
  simp [engineMove, hb, h]

theorem engineMove_delay {s : State} {d : Option Nat} (h : s.action = .delay d) :
    engineMove s = .next s.serveDelay.nextStep := by
  have hb := busy_of_action (s := s) (by rw [h]; simp)
  simp [engineMove, hb, h]

/-- The moves that take an answer from a port (R107). -/
theorem engineMove_tx {s : State} {b : Byte} {m : Bool} {w : TxWord} {rest : List TxWord} (h : s.action = .tx b m)
    (ha : s.env.txAns = w :: rest) : engineMove s = exec (decodeTx w) (s.setTxAns rest) := by
  have hb := busy_of_action (s := s) (by rw [h]; simp)
  simp [engineMove, hb, h, ha]

theorem engineMove_flush {s : State} {a : BitVec 1} {rest : List (BitVec 1)} (h : s.action = .flush)
    (ha : s.env.flushAns = a :: rest) : engineMove s = exec (decodeFlush a) (s.setFlushAns rest) := by
  have hb := busy_of_action (s := s) (by rw [h]; simp)
  simp [engineMove, hb, h, ha]

theorem engineMove_rx {s : State} {w : RxWord} {rest : List RxWord} {i : Instr} (h : s.polling = true)
    (ha : s.rxNext = some (w, rest)) (hd : decodeRx s.view w = .ok i) : engineMove s = exec i (s.setRxAns rest) := by
  obtain ⟨hb, ho, hk, hp⟩ := (polling_iff s).1 h
  simp [engineMove, hb, State.action, ho, hk, readFrameAction, hp, ha, hd]

/-- All that a move of the engine can do: nothing, or one of the moves of the action under way. -/
theorem engineMove_cases {s t : State} (h : engineMove s = .next t) :
    t = s ∨
    ((s.action = .build ∨ ∃ l, s.action = .line l) ∧ t = s.nextStep) ∨
    ((∃ d, s.action = .delay d) ∧ t = s.serveDelay.nextStep) ∨
    (∃ b m w rest, s.action = .tx b m ∧ s.env.txAns = w :: rest ∧ exec (decodeTx w) (s.setTxAns rest) = .next t) ∨
    (∃ a rest, s.action = .flush ∧ s.env.flushAns = a :: rest ∧ exec (decodeFlush a) (s.setFlushAns rest) = .next t) ∨
    (∃ w rest i, s.polling = true ∧ s.rxNext = some (w, rest) ∧ decodeRx s.view w = .ok i ∧
      exec i (s.setRxAns rest) = .next t) ∨
    (s.action = .parse ∧ s.parser.phase = .done ∧ t = s.nextStep) ∨
    (s.action = .finish ∧ t = s.complete .ok 0 0 0) ∨
    (s.action = .select ∧ t = s.selectResult) := by
  by_cases hb : s.ctl.eng = .busy
  swap
  · rw [engineMove_of_not_busy hb] at h
    exact .inl (Host.Outcome.next.inj h).symm
  cases ha : s.action with
  | none => simp [engineMove, hb, ha] at h
  | build => rw [engineMove_build ha] at h; simp_all
  | line l => rw [engineMove_line ha] at h; simp_all
  | delay d => rw [engineMove_delay ha] at h; simp_all
  | tx b m =>
    cases ht : s.env.txAns with
    | nil => simp_all [engineMove]
    | cons w rest => rw [engineMove_tx ha ht] at h; simp_all
  | flush =>
    cases ht : s.env.flushAns with
    | nil => simp_all [engineMove]
    | cons w rest => rw [engineMove_flush ha ht] at h; simp_all
  | parse =>
    by_cases hd : s.parser.phase = .done
    · simp_all [engineMove]
    · cases ht : s.rxNext with
      | none => simp_all [engineMove]
      | some p =>
        obtain ⟨w, rest⟩ := p
        have hp : s.polling = true := by simp [State.polling, ha, hd]
        cases hi : decodeRx s.view w with
        | ok i => rw [engineMove_rx hp ht hi] at h; simp_all
        | error e => simp [engineMove, hb, ha, hd, ht, hi] at h
  | finish => simp_all [engineMove, State.begin]
  | select => simp_all [engineMove, State.begin]

/-- All that a turn of the world outside, or the engine left to itself, can do. -/
theorem step_cases {s t : State} (h : step s = .next t) :
    (s.env.turns = [] ∧ s.ctl.eng ≠ .halted ∧ engineMove s = .next t) ∨
    (∃ w rest, s.env.turns = .write cmdReg w :: rest ∧ exec (decodeCmd w) (s.setTurns rest) = .next t) ∨
    (∃ a d rest, s.env.turns = .write a d :: rest ∧ a ≠ cmdReg ∧ t = (s.setTurns rest).writeReg a d) ∨
    (∃ a rest, s.env.turns = .read a :: rest ∧ t = (s.hostRead a).setTurns rest) ∨
    (∃ rest, s.env.turns = .wait :: rest ∧
      (t = (s.hostRead statusReg).setTurns rest ∨ engineMove (s.hostRead statusReg) = .next t)) ∨
    (∃ rest, s.env.turns = .reset :: rest ∧ t = s.resetEngine.setTurns rest) ∨
    (∃ rest, s.env.turns = .engine :: rest ∧ engineMove (s.setTurns rest) = .next t) ∨
    (∃ k rest, s.env.turns = .ticks k :: rest ∧
      (engineMove s = .next t ∨ (s.delaying = false ∧ t = (s.passTime k).setTurns rest) ∨
        (s.delaying = true ∧ ∃ j ts, j ≤ s.periodsLeft ∧ t = (s.elapse j).setTurns ts))) := by
  cases ht : s.env.turns with
  | nil =>
    cases he : s.ctl.eng <;> simp_all [step, ownStep]
  | cons u rest =>
    rw [step_of_turn ht] at h
    cases u with
    | write a d =>
      by_cases hc : a = cmdReg
      · subst hc; simp_all [turnStep, hostWrite]
      · simp_all [turnStep, hostWrite]
    | read a => simp_all [turnStep]
    | wait =>
      simp only [turnStep, waitTurn] at h
      split at h <;> simp_all
    | reset => simp_all [turnStep]
    | engine => simp_all [turnStep]
    | ticks k =>
      simp only [turnStep, ticksTurn] at h
      split at h
      · simp_all
      · split at h
        · simp_all
        · split at h
          · rename_i h1 h2 h3
            simp only [Bool.not_eq_false] at h2
            simp_all
            exact .inr ⟨k, h3, rest, h.symm⟩
          · rename_i h1 h2 h3
            simp only [Bool.not_eq_false] at h2
            simp_all
            exact .inr ⟨s.periodsLeft, Nat.le_refl _, _, by rw [← h]; rfl⟩

theorem run_zero (s : State) : Host.Core.run Sys2Proof.core 0 s = .next s := rfl

theorem run_succ {s t : State} (k : Nat) (h : step s = .next t) :
    Host.Core.run Sys2Proof.core (k + 1) s = Host.Core.run Sys2Proof.core k t := by
  have h' : Sys2Proof.core.step s = .next t := h
  simp only [Host.Core.run, h']

/-- A run of j + k steps is a run of j and then of k. -/
theorem run_add {s t : State} (j k : Nat) (h : Host.Core.run Sys2Proof.core j s = .next t) :
    Host.Core.run Sys2Proof.core (j + k) s = Host.Core.run Sys2Proof.core k t := by
  induction j generalizing s with
  | zero => rw [run_zero] at h; cases h; rw [Nat.zero_add]
  | succ j ih =>
    cases hs : step s with
    | next u =>
      rw [run_succ j hs] at h
      rw [Nat.succ_add, run_succ (j + k) hs]
      exact ih h
    | fault r => have h' : Sys2Proof.core.step s = .fault r := hs; simp [Host.Core.run, h'] at h
    | refused r => have h' : Sys2Proof.core.step s = .refused r := hs; simp [Host.Core.run, h'] at h

end Sys2Proof.Machine
end

