-- ==== Sys2Proof/Laws/HostProgram.lean ====
section
/-! SUPPORT. What the host's statements do when they are run (30_encoding.md R123): one read, one write, a range of reads, the
writes of the data bytes. -/

namespace Sys2Proof.Machine

/-- One `RD`: the word appears on reg_rdata and the turn is over (R33). -/
theorem step_read {s : State} {a : BitVec 6} {rest : List Turn} (h : s.env.turns = .read a :: rest) :
    step s = .next { s with env := { s.env with turns := rest, rdata := s.readReg a } } := by
  rw [step_of_turn h]
  rfl

/-- One `WR` in IDLE to a register other than CMD (R33). -/
theorem step_write {s : State} {a : BitVec 6} {d : Word} {rest : List Turn} (h : s.env.turns = .write a d :: rest)
    (hi : s.ctl.eng = .idle) (ha : a ≠ cmdReg) : step s = .next ((s.setTurns rest).storeReg a d) := by
  rw [step_of_turn h]
  simp [turnStep, hostWrite, ha, State.writeReg, hi]

/-- No register reads the environment. -/
@[simp] theorem readReg_env (s : State) (e : Env) (a : BitVec 6) : ({ s with env := e } : State).readReg a = s.readReg a := rfl

@[simp] theorem rdRange_zero (a : Nat) : rdRange a 0 = [] := rfl

theorem rdRange_succ (a k : Nat) : rdRange a (k + 1) = .read (BitVec.ofNat 6 a) :: rdRange (a + 1) k := by
  simp only [rdRange, List.range_succ_eq_map, List.map_cons, List.map_map, Nat.add_zero, List.cons.injEq, true_and]
  exact List.map_congr_left fun i _ => by simp only [Function.comp_apply]; congr 2; omega

/-- The reads of a range, one step each: after the j-th only the turns and the word on reg_rdata have changed. -/
theorem run_rdRange {k j a : Nat} {s : State} {rest : List Turn} (hj : j < k) (h : s.env.turns = rdRange a k ++ rest) :
    Host.Core.run Sys2Proof.core (j + 1) s = .next { s with
      env := { s.env with turns := (rdRange a k).drop (j + 1) ++ rest, rdata := s.readReg (BitVec.ofNat 6 (a + j)) } } := by
  induction j generalizing k a s with
  | zero =>
    obtain ⟨k, rfl⟩ : ∃ m, k = m + 1 := ⟨k - 1, by omega⟩
    rw [rdRange_succ] at h ⊢
    rw [run_succ 0 (step_read h), run_zero]
    rfl
  | succ j ih =>
    obtain ⟨k, rfl⟩ : ∃ m, k = m + 1 := ⟨k - 1, by omega⟩
    rw [rdRange_succ] at h ⊢
    rw [run_succ (j + 1) (step_read h), ih (k := k) (a := a + 1) (by omega) rfl, show a + 1 + j = a + (j + 1) by omega]
    rfl

/-- A byte written to `OP_DATA[i]` (R37). -/
theorem storeReg_data (s : State) {i : Nat} (h : i < 8) (b : Byte) :
    s.storeReg (BitVec.ofNat 6 (0x10 + i)) (b.setWidth 32)
      = { s with ops := { s.ops with data := s.ops.data.setIfInBounds i b } } := by
  have hb : (b.setWidth 32).setWidth 8 = b := by simp
  interval_cases i <;> rw [← hb] <;> simp [State.storeReg]

/-- The writes of the data bytes, one step each: they land in OP_DATA from i on, and nothing else changes. -/
theorem run_dataWrites (l : List Byte) {i : Nat} {s : State} {rest : List Turn} (hi : s.ctl.eng = .idle)
    (hl : i + l.length ≤ 8) (h : s.env.turns = dataWrites i l ++ rest) :
    ∃ v : Vector Byte 8, Host.Core.run Sys2Proof.core l.length s
        = .next { s with ops := { s.ops with data := v }, env := { s.env with turns := rest } } ∧
      ∀ j, v[j]? = if i ≤ j ∧ j < i + l.length then l[j - i]? else s.ops.data[j]? := by
  induction l generalizing i s with
  | nil =>
    refine ⟨s.ops.data, ?_, fun j => by rw [if_neg (by simp)]⟩
    simp only [dataWrites, List.nil_append] at h
    subst h
    rfl
  | cons b l ih =>
    simp only [List.length_cons] at hl
    have ha : BitVec.ofNat 6 (0x10 + i) ≠ cmdReg := by
      have : i < 8 := by omega
      interval_cases i <;> decide
    have hs := step_write h hi ha
    rw [storeReg_data _ (by omega)] at hs
    obtain ⟨v, h1, h2⟩ := ih (i := i + 1)
      (s := { s with ops := { s.ops with data := s.ops.data.setIfInBounds i b }, env := { s.env with turns := dataWrites (i + 1) l ++ rest } })
      hi (by omega) rfl
    refine ⟨v, by rw [List.length_cons, run_succ _ hs]; exact h1, fun j => ?_⟩
    rw [h2]
    simp only [List.length_cons]
    by_cases hj : j = i
    · subst hj
      rw [if_neg (by omega), if_pos (by omega)]
      simp only [Vector.getElem?_setIfInBounds, Nat.sub_self, List.getElem?_cons_zero]
      simp
      omega
    · by_cases hr : i + 1 ≤ j ∧ j < i + 1 + l.length
      · rw [if_pos hr, if_pos (by omega), show j - i = j - (i + 1) + 1 by omega, List.getElem?_cons_succ]
      · rw [if_neg hr, if_neg (by omega), Vector.getElem?_setIfInBounds, if_neg (Ne.symm hj)]

end Sys2Proof.Machine
end

