-- ==== Sys2Proof/Laws/Invariant.lean ====
section
/-! SUPPORT. What the invariant says of a state, in the form in which proofs use it: it does not see the environment, it
lists the STEPs of a BUSY engine, and time passing keeps it. -/

namespace Sys2Proof.Machine

/-! ### The action does not see the environment, DLY, or the result -/

theorem action_of_env (s : State) (e : Env) : ({ s with env := e } : State).action = s.action := by
  simp [State.action, sendBreakAction, sendWakeupAction, sendFrameAction, readFrameAction, breakAction, State.frameAtTxi]

theorem action_of_dly (s : State) (d : Word) : ({ s with ctl := { s.ctl with dly := d } } : State).action = s.action := by
  simp [State.action, sendBreakAction, sendWakeupAction, sendFrameAction, readFrameAction, breakAction, State.frameAtTxi]

theorem serveDelay_action (s : State) : s.serveDelay.action = s.action := by
  rw [serveDelay_eq]
  simp [State.action, sendBreakAction, sendWakeupAction, sendFrameAction, readFrameAction, breakAction, State.frameAtTxi]

/-- The four forms of the result that ends a READ_FRAME (R240): each payload with its own code. -/
theorem selectResult_cases (s : State) :
    s.selectResult = s.complete .transportError 0 0 s.parser.rxErr ∨
    s.selectResult = s.complete .onlyPartialResponse s.parser.count 0 0 ∨
    s.selectResult = s.complete .ok 0 s.parser.chk 0 ∨ ∃ c, s.selectResult = s.complete c 0 0 0 := by
  simp only [State.selectResult]
  split
  · simp
  · split
    · simp
    · simp
    · exact .inr (.inr (.inr ⟨_, rfl⟩))

/-! ### The invariant -/

/-- The invariant does not see the environment. -/
theorem stateInv_of_env (s : State) (e : Env) : StateInv { s with env := e } ↔ StateInv s := by
  simp only [StateInv, ActiveLegal, ControlLegal, LineLegal, ParserLegal, ParseLegal, ResultLegal, DelayLegal, FrameLegal,
    State.delayUnderWay, action_of_env]
  rfl

/-- The commands and STEPs at which a BUSY engine can be found (R42). -/
theorem busy_step_cases {s : State} (h : StateInv s) (hb : s.ctl.eng = .busy) :
    (s.ctl.curOp = .sendBreak ∧ (s.ctl.stepNo = 1 ∨ s.ctl.stepNo = 2 ∨ s.ctl.stepNo = 3 ∨ s.ctl.stepNo = 4)) ∨
    (s.ctl.curOp = .sendWakeup ∧ (s.ctl.stepNo = 1 ∨ s.ctl.stepNo = 2 ∨ s.ctl.stepNo = 3 ∨ s.ctl.stepNo = 4)) ∨
    (s.ctl.curOp = .sendFrame ∧ (s.ctl.stepNo = 1 ∨ s.ctl.stepNo = 2 ∨ s.ctl.stepNo = 3 ∨ s.ctl.stepNo = 4 ∨
      s.ctl.stepNo = 5 ∨ s.ctl.stepNo = 6 ∨ s.ctl.stepNo = 7 ∨ s.ctl.stepNo = 8)) ∨
    (s.ctl.curOp = .readFrame ∧ (s.ctl.stepNo = 1 ∨ s.ctl.stepNo = 2 ∨ s.ctl.stepNo = 3 ∨ s.ctl.stepNo = 4 ∨
      s.ctl.stepNo = 5 ∨ s.ctl.stepNo = 6 ∨ s.ctl.stepNo = 7 ∨ s.ctl.stepNo = 8 ∨ s.ctl.stepNo = 9 ∨
      s.ctl.stepNo = 10)) := by
  have h := (h.2.1 hb).1
  cases ho : s.ctl.curOp <;> simp [stepLegal, ho] at h <;>
    simp only [reduceCtorEq, false_and, true_and, false_or, or_false]
  all_goals (revert h; generalize s.ctl.stepNo = k; revert k; decide)

/-- DLY is 0 wherever no delay is under way (R267). -/
theorem dly_eq_zero {s : State} (h : StateInv s) (hn : ∀ d, s.action ≠ .delay d) : s.ctl.dly = 0 := by
  have := h.2.2.2.2.2.2.1
  simp only [DelayLegal, State.delayUnderWay] at this
  split at this
  · rename_i e; exact absurd e (hn _)
  · exact BitVec.eq_of_toNat_eq (by simpa using this)

/-- Serving a delay keeps the invariant. -/
theorem serveDelay_inv {s : State} (h : StateInv s) : StateInv s.serveDelay := by
  rw [serveDelay_eq]
  refine (stateInv_of_env _ s.env).1 ?_
  obtain ⟨i1, i2, i3, i4, i5, i6, i7, i8⟩ := h
  exact ⟨i1, i2, i3, i4, i5, i6, by simp [DelayLegal], i8⟩

/-- Clock periods going by keep the invariant. -/
theorem elapse_inv {s : State} (h : StateInv s) (k : Nat) : StateInv (s.elapse k) := by
  refine (stateInv_of_env _ s.env).1 ?_
  obtain ⟨i1, i2, i3, i4, i5, i6, i7, i8⟩ := h
  refine ⟨i1, i2, i3, i4, i5, i6, ?_, i8⟩
  simp only [DelayLegal, State.delayUnderWay, State.elapse, action_of_dly] at i7 ⊢
  have := s.ctl.dly.isLt
  simp only [BitVec.toNat_ofNat]
  omega

end Sys2Proof.Machine
end

