-- ==== Sys2Proof/Laws/PerInstr.lean ====
section
/-! SUPPORT. One statement per row of spec/opcode_table.json: the row's instruction is encoded on the row's own port by a
word whose masked code bits are the row's match, and the code fits the row's width. -/

namespace Sys2Proof.Laws

/-- A row as opcode_table.json has it: the format, the width of the code in bits, mask and match. -/
structure Row where
  format : String
  nbits  : Nat
  mask   : Nat
  value  : Nat
  deriving DecidableEq, Repr

/-- The code bits of a port word: the CMD word, `rx_kind`, `tx_ans`, `flush_ans`, with the format's name. -/
def codeBits : PortWord → String × Nat
  | .cmd w => ("F-CMD", w.toNat)
  | .rx w => ("F-RXANS", w.kind.toNat)
  | .tx w => ("F-TXANS", w.ans.toNat)
  | .flush a => ("F-FLANS", a.toNat)

/-- The row of each constructor. -/
def row : Instr → Row
  | .init => { format := "F-CMD", nbits := 32, mask := 7, value := 1 }
  | .sendBreak => { format := "F-CMD", nbits := 32, mask := 7, value := 2 }
  | .sendWakeup => { format := "F-CMD", nbits := 32, mask := 7, value := 3 }
  | .sendFrame => { format := "F-CMD", nbits := 32, mask := 7, value := 4 }
  | .readFrame => { format := "F-CMD", nbits := 32, mask := 7, value := 5 }
  | .cmdReserved0 => { format := "F-CMD", nbits := 32, mask := 7, value := 0 }
  | .cmdReserved6 => { format := "F-CMD", nbits := 32, mask := 7, value := 6 }
  | .cmdReserved7 => { format := "F-CMD", nbits := 32, mask := 7, value := 7 }
  | .rxWouldBlock => { format := "F-RXANS", nbits := 2, mask := 3, value := 0 }
  | .rxByteAwaitSyncSync _ => { format := "F-RXANS", nbits := 2, mask := 3, value := 1 }
  | .rxByteAwaitSyncOther _ => { format := "F-RXANS", nbits := 2, mask := 3, value := 1 }
  | .rxByteAwaitIdMatch _ => { format := "F-RXANS", nbits := 2, mask := 3, value := 1 }
  | .rxByteAwaitIdMismatch _ => { format := "F-RXANS", nbits := 2, mask := 3, value := 1 }
  | .rxByteReadDataMore _ => { format := "F-RXANS", nbits := 2, mask := 3, value := 1 }
  | .rxByteReadDataLast _ => { format := "F-RXANS", nbits := 2, mask := 3, value := 1 }
  | .rxByteAwaitChecksum _ => { format := "F-RXANS", nbits := 2, mask := 3, value := 1 }
  | .rxError _ => { format := "F-RXANS", nbits := 2, mask := 3, value := 2 }
  | .rxReserved3 _ => { format := "F-RXANS", nbits := 2, mask := 3, value := 3 }
  | .txOk => { format := "F-TXANS", nbits := 1, mask := 1, value := 0 }
  | .txErr _ => { format := "F-TXANS", nbits := 1, mask := 1, value := 1 }
  | .flushOk => { format := "F-FLANS", nbits := 1, mask := 1, value := 0 }
  | .flushFail => { format := "F-FLANS", nbits := 1, mask := 1, value := 1 }

/-- The encoding of i is a word of i's row. -/
def TableRow.Statement (i : Instr) : Prop :=
  (codeBits (encode i)).1 = (row i).format ∧ (codeBits (encode i)).2 &&& (row i).mask = (row i).value ∧
    (codeBits (encode i)).2 < 2 ^ (row i).nbits

theorem TableRow.init : TableRow.Statement (.init) :=
  ⟨rfl, (by decide : 1 &&& 7 = 1), (by decide : 1 < 2 ^ 32)⟩
theorem TableRow.sendBreak : TableRow.Statement (.sendBreak) :=
  ⟨rfl, (by decide : 2 &&& 7 = 2), (by decide : 2 < 2 ^ 32)⟩
theorem TableRow.sendWakeup : TableRow.Statement (.sendWakeup) :=
  ⟨rfl, (by decide : 3 &&& 7 = 3), (by decide : 3 < 2 ^ 32)⟩
theorem TableRow.sendFrame : TableRow.Statement (.sendFrame) :=
  ⟨rfl, (by decide : 4 &&& 7 = 4), (by decide : 4 < 2 ^ 32)⟩
theorem TableRow.readFrame : TableRow.Statement (.readFrame) :=
  ⟨rfl, (by decide : 5 &&& 7 = 5), (by decide : 5 < 2 ^ 32)⟩
theorem TableRow.cmdReserved0 : TableRow.Statement (.cmdReserved0) :=
  ⟨rfl, (by decide : 0 &&& 7 = 0), (by decide : 0 < 2 ^ 32)⟩
theorem TableRow.cmdReserved6 : TableRow.Statement (.cmdReserved6) :=
  ⟨rfl, (by decide : 6 &&& 7 = 6), (by decide : 6 < 2 ^ 32)⟩
theorem TableRow.cmdReserved7 : TableRow.Statement (.cmdReserved7) :=
  ⟨rfl, (by decide : 7 &&& 7 = 7), (by decide : 7 < 2 ^ 32)⟩
theorem TableRow.rxWouldBlock : TableRow.Statement (.rxWouldBlock) :=
  ⟨rfl, (by decide : 0 &&& 3 = 0), (by decide : 0 < 2 ^ 2)⟩
theorem TableRow.rxByteAwaitSyncSync (b : Byte) : TableRow.Statement (.rxByteAwaitSyncSync b) :=
  ⟨rfl, (by decide : 1 &&& 3 = 1), (by decide : 1 < 2 ^ 2)⟩
theorem TableRow.rxByteAwaitSyncOther (b : Byte) : TableRow.Statement (.rxByteAwaitSyncOther b) :=
  ⟨rfl, (by decide : 1 &&& 3 = 1), (by decide : 1 < 2 ^ 2)⟩
theorem TableRow.rxByteAwaitIdMatch (b : Byte) : TableRow.Statement (.rxByteAwaitIdMatch b) :=
  ⟨rfl, (by decide : 1 &&& 3 = 1), (by decide : 1 < 2 ^ 2)⟩
theorem TableRow.rxByteAwaitIdMismatch (b : Byte) : TableRow.Statement (.rxByteAwaitIdMismatch b) :=
  ⟨rfl, (by decide : 1 &&& 3 = 1), (by decide : 1 < 2 ^ 2)⟩
theorem TableRow.rxByteReadDataMore (b : Byte) : TableRow.Statement (.rxByteReadDataMore b) :=
  ⟨rfl, (by decide : 1 &&& 3 = 1), (by decide : 1 < 2 ^ 2)⟩
theorem TableRow.rxByteReadDataLast (b : Byte) : TableRow.Statement (.rxByteReadDataLast b) :=
  ⟨rfl, (by decide : 1 &&& 3 = 1), (by decide : 1 < 2 ^ 2)⟩
theorem TableRow.rxByteAwaitChecksum (b : Byte) : TableRow.Statement (.rxByteAwaitChecksum b) :=
  ⟨rfl, (by decide : 1 &&& 3 = 1), (by decide : 1 < 2 ^ 2)⟩
theorem TableRow.rxError (e : Byte) : TableRow.Statement (.rxError e) :=
  ⟨rfl, (by decide : 2 &&& 3 = 2), (by decide : 2 < 2 ^ 2)⟩
theorem TableRow.rxReserved3 (e : Byte) : TableRow.Statement (.rxReserved3 e) :=
  ⟨rfl, (by decide : 3 &&& 3 = 3), (by decide : 3 < 2 ^ 2)⟩
theorem TableRow.txOk : TableRow.Statement (.txOk) :=
  ⟨rfl, (by decide : 0 &&& 1 = 0), (by decide : 0 < 2 ^ 1)⟩
theorem TableRow.txErr (e : Byte) : TableRow.Statement (.txErr e) :=
  ⟨rfl, (by decide : 1 &&& 1 = 1), (by decide : 1 < 2 ^ 1)⟩
theorem TableRow.flushOk : TableRow.Statement (.flushOk) :=
  ⟨rfl, (by decide : 0 &&& 1 = 0), (by decide : 0 < 2 ^ 1)⟩
theorem TableRow.flushFail : TableRow.Statement (.flushFail) :=
  ⟨rfl, (by decide : 1 &&& 1 = 1), (by decide : 1 < 2 ^ 1)⟩

end Sys2Proof.Laws
end

