-- ==== Sys2Proof/Tests/Slice0.lean ====
section
/-! SUPPORT. The model's own tests: the well-formedness smoke test, one written-out word for every row of the opcode table,
one or two single steps for every instruction, and a witness for the hypotheses of every statement. Expected values are
those of spec/95_test_vectors.md (V…), of the encodings of spec/30_encoding.md (R…), or hand calculation from a rule. -/

namespace Sys2Proof.Tests

open Sys2Proof Sys2Proof.Machine

/-! ### Helpers -/

/-- Reset, and operands written: id 0x3C, 2 data bytes 0xA1 0xA2, checksum 0x5D. -/
def ready : State :=
  { State.reset with ops := { id := 0x3C, len := 2, chk := 0x5D, data := #v[0xA1, 0xA2, 3, 4, 5, 6, 7, 8] } }

/-- The engine at STEP k of a command. -/
def busy (op : CurOp) (k : BitVec 5) : State := ready.placeAt op k

/-- READ_FRAME at its parse loop, in phase p, with c bytes copied. -/
def parsing (p : Phase) (c : BitVec 4) : State :=
  { busy .readFrame 9 with parser := { State.reset.parser with phase := p, syncSeen := p != .awaitSync, count := c } }

/-- SEND_FRAME in its burst, with TXI at i. -/
def bursting (i : BitVec 4) : State :=
  { busy .sendFrame 6 with
    frame := #v[0x55, 0x3C, 0xA1, 0xA2, 0x5D, 0, 0, 0, 0, 0, 0]
    frameLen := 5
    ctl := { (busy .sendFrame 6).ctl with txi := i } }

/-- HALTED by a bad length. -/
def stopped : State := ({ ready with ops := { ready.ops with len := 0 } }.accept .sendFrame).raiseFatal .dataLengthOutOfRange

/-- The next state of an outcome; reset where there is none. -/
def after (o : Host.Outcome State Fault Refusal) : State :=
  match o with
  | .next t => t
  | .fault _ => State.reset
  | .refused _ => State.reset

/-- An outcome is a next state. -/
def goesOn (o : Host.Outcome State Fault Refusal) : Bool :=
  match o with
  | .next _ => true
  | .fault _ => false
  | .refused _ => false

/-! ### Well-formedness: an ill-formed term for each check -/

theorem test_wf_sync_row_refuses_other_byte : Instr.wellFormed (.rxByteAwaitSyncSync 0x12) = false := by decide
theorem test_wf_other_row_refuses_sync_byte : Instr.wellFormed (.rxByteAwaitSyncOther 0x55) = false := by decide
theorem test_guard_match_row_refuses_other_id :
    Instr.guard { phase := .awaitId, opId := 0x3C, opLen := 2, count := 0 } (.rxByteAwaitIdMatch 0x3D) = false := by decide
theorem test_guard_mismatch_row_refuses_the_id :
    Instr.guard { phase := .awaitId, opId := 0x3C, opLen := 2, count := 0 } (.rxByteAwaitIdMismatch 0x3C) = false := by decide
theorem test_guard_more_row_refuses_last :
    Instr.guard { phase := .readData, opId := 0x3C, opLen := 2, count := 1 } (.rxByteReadDataMore 1) = false := by decide
theorem test_guard_last_row_refuses_first :
    Instr.guard { phase := .readData, opId := 0x3C, opLen := 2, count := 0 } (.rxByteReadDataLast 1) = false := by decide
theorem test_guard_poll_rows_refuse_done :
    Instr.guard { phase := .done, opId := 0x3C, opLen := 2, count := 2 } .rxWouldBlock = false := by decide

/-! ### Decoding: one word for every row, bit by bit from R104, R111, R112, R113 -/

theorem test_decode_cmd_reserved_0 : decodeCmd 0b00000000000000000000000000000000 = .cmdReserved0 := by decide
theorem test_decode_init : decodeCmd 0b00000000000000000000000000000001 = .init := by decide
theorem test_decode_send_break : decodeCmd 0b11111111111111111111111111111010 = .sendBreak := by decide
theorem test_decode_send_wakeup : decodeCmd 0b00000000000000000000000000000011 = .sendWakeup := by decide
theorem test_decode_send_frame : decodeCmd 0b10000000000000000000000000000100 = .sendFrame := by decide
theorem test_decode_read_frame : decodeCmd 0b00000000000000000000000000001101 = .readFrame := by decide
theorem test_decode_cmd_reserved_6 : decodeCmd 0b00000000000000000000000000000110 = .cmdReserved6 := by decide
theorem test_decode_cmd_reserved_7 : decodeCmd 0b11111111111111111111111111111111 = .cmdReserved7 := by decide

theorem test_decode_rx_wouldblock :
    decodeRx (parsing .readData 1).view { kind := 0b00, data := 0x55, err := 0x07 } = .ok .rxWouldBlock := by decide
theorem test_decode_rx_byte_sync :
    decodeRx (parsing .awaitSync 0).view { kind := 0b01, data := 0b01010101, err := 0 } = .ok (.rxByteAwaitSyncSync 0x55) := by
  decide
theorem test_decode_rx_byte_other :
    decodeRx (parsing .awaitSync 0).view { kind := 0b01, data := 0b00111100, err := 0 } = .ok (.rxByteAwaitSyncOther 0x3C) := by
  decide
theorem test_decode_rx_byte_id_match :
    decodeRx (parsing .awaitId 0).view { kind := 0b01, data := 0b00111100, err := 0 } = .ok (.rxByteAwaitIdMatch 0x3C) := by
  decide
theorem test_decode_rx_byte_id_mismatch :
    decodeRx (parsing .awaitId 0).view { kind := 0b01, data := 0b01010101, err := 0 } = .ok (.rxByteAwaitIdMismatch 0x55) := by
  decide
theorem test_decode_rx_byte_more :
    decodeRx (parsing .readData 0).view { kind := 0b01, data := 0b10100001, err := 0 } = .ok (.rxByteReadDataMore 0xA1) := by
  decide
theorem test_decode_rx_byte_last :
    decodeRx (parsing .readData 1).view { kind := 0b01, data := 0b10100010, err := 0 } = .ok (.rxByteReadDataLast 0xA2) := by
  decide
theorem test_decode_rx_byte_checksum :
    decodeRx (parsing .awaitChecksum 2).view { kind := 0b01, data := 0b01011101, err := 0 } = .ok (.rxByteAwaitChecksum 0x5D) := by
  decide
theorem test_decode_rx_error :
    decodeRx (parsing .awaitSync 0).view { kind := 0b10, data := 0, err := 0b00101010 } = .ok (.rxError 0x2A) := by decide
theorem test_decode_rx_reserved_3 :
    decodeRx (parsing .awaitSync 0).view { kind := 0b11, data := 0, err := 0b00010001 } = .ok (.rxReserved3 0x11) := by decide
theorem test_decode_tx_ok : decodeTx { ans := 0b0, err := 0x0E } = .txOk := by decide
theorem test_decode_tx_err : decodeTx { ans := 0b1, err := 0b00001110 } = .txErr 0x0E := by decide
theorem test_decode_flush_ok : decodeFlush 0b0 = .flushOk := by decide
theorem test_decode_flush_fail : decodeFlush 0b1 = .flushFail := by decide
theorem test_decode_after_done_is_rejected :
    decodeRx (parsing .done 2).view { kind := 0b01, data := 1, err := 0 } = .error .pollAfterDone := by decide
theorem test_decode_past_length_is_rejected :
    decodeRx (parsing .readData 2).view { kind := 0b01, data := 1, err := 0 } = .error .countPastLength := by decide
theorem test_table_word_rx_byte : decodeTableWord 8 0x5501 = some (.rxByteAwaitSyncSync 0x55) := by decide
theorem test_table_word_tx_err : decodeTableWord 8 0b0000111000000101 = some (.txErr 0x0E) := by decide
theorem test_table_word_flush_fail : decodeTableWord 8 0b1001 = some .flushFail := by decide

/-! ### Single steps -/

/-- V73: INIT after P_SPEED = 0: A_SPEED = 0, STATUS = 0x00001002. -/
theorem test_init_installs :
    (after (exec .init { State.reset with staging := { State.reset.staging with speed := 0 } })).active.speed = 0 ∧
    (after (exec .init { State.reset with staging := { State.reset.staging with speed := 0 } })).statusWord = 0x00001002 := by
  decide
/-- V74: INIT with P_WAKE_SEL = 3 is refused: RESULT = 0x0000000F, A_WAKE_SEL still 0. -/
theorem test_init_refused :
    (after (exec .init { State.reset with staging := { State.reset.staging with wakeSel := 3 } })).resultWord = 0x0000000F ∧
    (after (exec .init { State.reset with staging := { State.reset.staging with wakeSel := 3 } })).active.wakeSel = 0 := by
  decide
/-- V80: SEND_BREAK begins with Line(1), and the break of the default profile is 677079 ns. -/
theorem test_send_break_begins :
    (after (exec .sendBreak State.reset)).env.trace = [.line 1] ∧ (after (exec .sendBreak State.reset)).line = 1 := by decide
theorem test_send_break_delay : (after (step (busy .sendBreak 1))).ctl.dly = 677079 := by decide
/-- V89b: with ASSERT_LEVEL = 0 the break drives the line to 0. -/
theorem test_send_break_other_polarity :
    (after (exec .sendBreak (State.resetWith { assertLevel := 0, tickNs := 1, defaultRtoMs := 2 }))).line = 0 := by decide
/-- V88: Custom(5000001) halts with cause 2, STATUS = 0x00003004. -/
theorem test_send_wakeup_too_long :
    (after (exec .sendWakeup { State.reset with active := { State.reset.active with wakeSel := 2, wakeNs := 5000001 } })).statusWord
      = 0x00003004 := by decide
/-- V87: Custom(5000000) is legal. -/
theorem test_send_wakeup_bound_is_legal :
    (after (exec .sendWakeup { State.reset with active := { State.reset.active with wakeSel := 2, wakeNs := 5000000 } })).line
      = 1 := by decide
/-- V97: OP_LEN = 0 halts SEND_FRAME with cause 1, STATUS = 0x00004004. -/
theorem test_send_frame_without_length :
    (after (exec .sendFrame State.reset)).statusWord = 0x00004004 ∧
    (after (exec .sendFrame State.reset)).fatalCauseWord = 1 := by decide
/-- R183: the frame of 0x3C, [0xA1, 0xA2], 0x5D, and its length. -/
theorem test_send_frame_builds :
    (after (exec .sendFrame ready)).frame = #v[0x55, 0x3C, 0xA1, 0xA2, 0x5D, 0, 0, 0, 0, 0, 0] ∧
    (after (exec .sendFrame ready)).frameLen = 5 := by decide
/-- V107: OP_LEN = 0 halts READ_FRAME before the leading delay. -/
theorem test_read_frame_without_length :
    (after (exec .readFrame State.reset)).statusWord = 0x00005004 ∧ (after (exec .readFrame State.reset)).env.trace = [] := by
  decide
/-- V104: READ_FRAME begins with Delay(1000000). -/
theorem test_read_frame_begins : (after (exec .readFrame ready)).env.trace = [.delay 1000000] := by decide
/-- V112: a reserved opcode from reset: RESULT = 0x0000000F, STATUS = 0x00000002. -/
theorem test_cmd_reserved_0 :
    (after (exec .cmdReserved0 State.reset)).resultWord = 0x0000000F ∧
    (after (exec .cmdReserved0 State.reset)).statusWord = 0x00000002 := by decide
theorem test_cmd_reserved_6 : (after (exec .cmdReserved6 State.reset)).resultWord = 0x0000000F := by decide
theorem test_cmd_reserved_7 : (after (exec .cmdReserved7 State.reset)).statusWord = 0x00000002 := by decide
/-- V116: a command word while BUSY is ignored. -/
theorem test_command_while_busy : after (exec .sendWakeup (busy .sendBreak 2)) = busy .sendBreak 2 := by decide

/-- R209: WouldBlock stops the parse with its registers unchanged, and POST begins. -/
theorem test_rx_wouldblock :
    (after (exec .rxWouldBlock (parsing .awaitId 0))).parser = (parsing .awaitId 0).parser ∧
    (after (exec .rxWouldBlock (parsing .awaitId 0))).ctl.dly = 1000000 := by decide
/-- R202: the first byte of V104. -/
theorem test_rx_byte_sync :
    (after (exec (.rxByteAwaitSyncSync 0x55) (parsing .awaitSync 0))).parser.phase = .awaitId ∧
    (after (exec (.rxByteAwaitSyncSync 0x55) (parsing .awaitSync 0))).parser.syncSeen = true := by decide
/-- R203: a byte equal to the id is discarded in AwaitSync. -/
theorem test_rx_byte_other :
    (after (exec (.rxByteAwaitSyncOther 0x3C) (parsing .awaitSync 0))).parser = (parsing .awaitSync 0).parser := by decide
theorem test_rx_byte_id_match :
    (after (exec (.rxByteAwaitIdMatch 0x3C) (parsing .awaitId 0))).parser.phase = .readData := by decide
/-- V31: a second 0x55 is a mismatch and is dropped; SYNC_SEEN stays. -/
theorem test_rx_byte_id_mismatch :
    (after (exec (.rxByteAwaitIdMismatch 0x55) (parsing .awaitId 0))).parser.phase = .awaitSync ∧
    (after (exec (.rxByteAwaitIdMismatch 0x55) (parsing .awaitId 0))).parser.syncSeen = true := by decide
/-- V121: after the third poll of V104 STATUS = 0x000051A1. -/
theorem test_rx_byte_more :
    (after (exec (.rxByteReadDataMore 0xA1) (parsing .readData 0))).statusWord = 0x000051A1 ∧
    (after (exec (.rxByteReadDataMore 0xA1) (parsing .readData 0))).buf = #v[0xA1, 0, 0, 0, 0, 0, 0, 0] := by decide
theorem test_rx_byte_last :
    (after (exec (.rxByteReadDataLast 0xA2) (parsing .readData 1))).buf = #v[0, 0xA2, 0, 0, 0, 0, 0, 0] ∧
    (after (exec (.rxByteReadDataLast 0xA2) (parsing .readData 1))).parser.phase = .awaitChecksum := by decide
theorem test_rx_byte_checksum :
    (after (exec (.rxByteAwaitChecksum 0x5D) (parsing .awaitChecksum 2))).parser.chk = 0x5D ∧
    (after (exec (.rxByteAwaitChecksum 0x5D) (parsing .awaitChecksum 2))).ctl.stepNo = 10 := by decide
/-- V46: the error is kept, the progress is not touched. -/
theorem test_rx_error :
    (after (exec (.rxError 0x07) (parsing .awaitId 0))).parser.rxErr = 0x07 ∧
    (after (exec (.rxError 0x07) (parsing .awaitId 0))).parser.phase = .awaitId := by decide
/-- V48. -/
theorem test_rx_reserved_3 :
    (after (exec (.rxReserved3 0x11) (parsing .awaitSync 0))).parser.rxErr = 0x11 ∧
    (after (exec (.rxReserved3 0x11) (parsing .awaitSync 0))).parser.rxErrV = true := by decide
/-- R181 STEP 6: TXI 3 of 5, the burst goes on; TXI 4 of 5, the flush follows. -/
theorem test_tx_ok_more : (after (exec .txOk (bursting 3))).ctl.stepNo = 6 ∧ (after (exec .txOk (bursting 3))).ctl.txi = 4 := by
  decide
theorem test_tx_ok_last : (after (exec .txOk (bursting 4))).ctl.stepNo = 7 := by decide
/-- V95: the fourth byte fails: RESULT = 0x00010001, TXI = 3. -/
theorem test_tx_err :
    (after (exec (.txErr 0x01) (bursting 3))).resultWord = 0x00010001 ∧ (after (exec (.txErr 0x01) (bursting 3))).ctl.txi = 3 := by
  decide
theorem test_flush_ok : (after (exec .flushOk (busy .sendFrame 7))).ctl.dly = 1000000 := by decide
/-- V96: RESULT = 0x00000002. -/
theorem test_flush_fail : (after (exec .flushFail (busy .sendFrame 7))).resultWord = 0x00000002 := by decide

/-- V23: OnlyPartialResponse(2) of 4 bytes: RESULT = 0x00000026. -/
theorem test_select_partial :
    (after (step { parsing .readData 2 with
      ops := { ready.ops with len := 4 }, ctl := { (parsing .readData 2).ctl with stepNo := 10 } })).resultWord = 0x00000026 := by
  decide
/-- V47: a hard error wins over NoChecksumReceived: RESULT = 0x00FF0001. -/
theorem test_select_error_wins :
    (after (step { parsing .awaitChecksum 1 with
      parser := { (parsing .awaitChecksum 1).parser with rxErrV := true, rxErr := 0xFF }
      ctl := { (parsing .awaitChecksum 1).ctl with stepNo := 10 } })).resultWord = 0x00FF0001 := by decide

/-! ### Witnesses: a state and operands that meet the hypotheses of each statement together -/

/-- A host turn is pending. -/
def withTurn (s : State) (t : Turn) : State := s.setTurns [t]

/-- A READ_FRAME at its first poll, as the statements about the parse need it; the answers l are to come. -/
def polling (l : List RxWord) : State :=
  { parsing .awaitSync 0 with
    ctl := { (busy .readFrame 9).ctl with txi := 2 }
    env := { State.reset.env with rxAns := l } }

/-- V52: 0x00 for ever, after one byte 0x3C. -/
def babbling : State :=
  { polling (byteAnswers [0x3C]) with env := { (polling (byteAnswers [0x3C])).env with rxLoop := byteAnswers [0x00] } }

theorem witness_DecodeOfEncodeIsTheInstruction :
    Instr.wellFormed (.rxByteReadDataLast 0x55) = true ∧
    Instr.guard { phase := .readData, opId := 0x3C, opLen := 8, count := 7 } (.rxByteReadDataLast 0x55) = true ∧
    Instr.wellFormed (.rxByteAwaitSyncSync 0x55) = true ∧ Instr.guard (parsing .awaitSync 0).view (.rxByteAwaitSyncSync 0x55) = true ∧
    Instr.guard (parsing .awaitId 0).view (.rxByteAwaitIdMismatch 0x55) = true := by decide

theorem witness_CommandWordLowBitsDecide :
    (0xFFFFFFF8#32).extractLsb' 0 3 = 0 ∧ (0xFFFFFFF9#32).extractLsb' 0 3 = 1 ∧ (0xFFFFFFFA#32).extractLsb' 0 3 = 2 ∧
    (0xFFFFFFFB#32).extractLsb' 0 3 = 3 ∧ (0xFFFFFFFC#32).extractLsb' 0 3 = 4 ∧ (0xFFFFFFFD#32).extractLsb' 0 3 = 5 ∧
    (0xFFFFFFFE#32).extractLsb' 0 3 = 6 ∧ (0xFFFFFFFF#32).extractLsb' 0 3 = 7 := by decide

theorem witness_ExactlyOneRowPerAnswer :
    (parsing .readData 1).view.phase ≠ .done ∧ (parsing .readData 1).view.count.toNat < (parsing .readData 1).view.opLen.toNat := by
  decide

theorem witness_StepRunsTheFetchedInstruction :
    (withTurn State.reset (.write 0x0B 2)).env.turns = .write 0x0B 2 :: [] ∧
    (bursting 4).env.turns = [] ∧ (bursting 4).action = .tx 0x5D false ∧
    ((bursting 4).setTxAns [⟨0, 0⟩]).env.txAns = ⟨0, 0⟩ :: [] ∧ ((bursting 4).setTxAns [⟨0, 0⟩]).action = .tx 0x5D false ∧
    ((busy .sendFrame 7).setFlushAns [1]).action = .flush ∧ ((busy .sendFrame 7).setFlushAns [1]).env.flushAns = 1 :: [] ∧
    (polling [⟨1, 0x55, 0⟩]).polling = true ∧ (polling [⟨1, 0x55, 0⟩]).env.turns = [] ∧
    (polling [⟨1, 0x55, 0⟩]).env.rxAns = ⟨1, 0x55, 0⟩ :: [] ∧
    (babbling.setRxAns []).polling = true ∧ (babbling.setRxAns []).env.turns = [] ∧ (babbling.setRxAns []).env.rxAns = [] ∧
    (babbling.setRxAns []).env.rxLoop = ⟨1, 0x00, 0⟩ :: [] ∧
    decodeRx (babbling.setRxAns []).view ⟨1, 0x00, 0⟩ = .ok (.rxByteAwaitSyncOther 0x00) ∧
    decodeRx (polling [⟨1, 0x55, 0⟩]).view ⟨1, 0x55, 0⟩ = .ok (.rxByteAwaitSyncSync 0x55) := by decide

/-- The words of PlacedWordIsRunNext at the edges of their fields: the last RX kind, both TX answers, the last flush answer. -/
theorem test_placed_words :
    decodeTableWord 8 (3 + 256 * 0xFF) = some (.rxReserved3 0xFF) ∧ decodeTableWord 8 (0 + 4 + 256 * 0xFF) = some .txOk ∧
    decodeTableWord 8 (1 + 4 + 256 * 0xFF) = some (.txErr 0xFF) ∧ decodeTableWord 8 (1 + 8) = some .flushFail := by decide

theorem witness_ResetFromAnyState :
    (withTurn (busy .sendBreak 2) .reset).env.turns = .reset :: [] ∧ (withTurn stopped .reset).env.turns = .reset :: [] := by decide

theorem witness_OnlyResetLeavesHalted :
    stopped.ctl.eng = .halted ∧ stopped.env.turns = [] ∧ (withTurn stopped (.write 0x0B 1)).ctl.eng = .halted ∧
    (withTurn stopped (.write 0x0B 1)).env.turns = .write 0x0B 1 :: [] ∧ Turn.write 0x0B 1 ≠ .reset := by decide

theorem witness_RegisterAccessRule :
    (withTurn (busy .sendBreak 2) (.read 0x0C)).env.turns = .read 0x0C :: [] ∧
    (withTurn (busy .sendBreak 2) (.write 0x09 5)).env.turns = .write 0x09 5 :: [] ∧ (busy .sendBreak 2).ctl.eng ≠ .idle ∧
    (withTurn State.reset (.write 0x09 5)).ctl.eng = .idle ∧ (0x09 : BitVec 6) ≠ 0x0B ∧
    (0x0C ≤ (0x0F : BitVec 6).toNat ∧ (0x0F : BitVec 6).toNat ≤ 0x0F) ∧ 0x18 ≤ (0x18 : BitVec 6).toNat := by decide

theorem witness_RegisterWriteThenRead :
    (0x10 ≤ (0x10 : BitVec 6).toNat ∧ (0x10 : BitVec 6).toNat ≤ 0x17) ∧
    (0x10 ≤ (0x17 : BitVec 6).toNat ∧ (0x17 : BitVec 6).toNat ≤ 0x17) ∧ (0x10 : BitVec 6) ≠ 0x17 ∧
    0x33 ≤ (0x33 : BitVec 6).toNat ∧ 0x33 ≤ (0x3F : BitVec 6).toNat := by decide

theorem witness_SetProfileInstalls :
    State.reset.ctl.eng = .idle ∧
    (State.reset.setTurns (setProfile { Profile.default .thisHardware with speed := 0 } ++ [.read 0x0D])).env.turns
      = setProfile { Profile.default .thisHardware with speed := 0 } ++ [.read 0x0D] ∧
    ({ Profile.default .thisHardware with speed := 0 } : Profile).hasReservedSelector = false ∧
    ({ Profile.default .thisHardware with rtoSel := 3 } : Profile).hasReservedSelector = true := by decide

theorem witness_FrameCallsSetTheOperands :
    ready.ctl.eng = .idle ∧ [1#8, 2, 3, 4, 5, 6, 7, 8].length ≤ 8 ∧
    (ready.setTurns (sendFrameCall 0x3C [1, 2, 3, 4, 5, 6, 7, 8] 0x5D ++ [.reset])).env.turns
      = sendFrameCall 0x3C [1, 2, 3, 4, 5, 6, 7, 8] 0x5D ++ [.reset] ∧
    (ready.setTurns (readFrameCall 0x3C 8 ++ [])).env.turns = readFrameCall 0x3C 8 ++ [] := by decide

/-- A command has ended with a result. -/
def ended (c : RCode) (n : BitVec 4) : State := ready.complete c n 0 0

theorem witness_CallReadsGiveTheBytes :
    (ended .ok 0).res.done = true ∧ (ended .ok 0).res.code = .ok ∧ (10 : Fin 11).val < 3 + 8 ∧ (7 : Fin 8).val < 8 ∧
    ((ended .ok 0).setTurns (sendFrameReads (ended .ok 0).statusWord (ended .ok 0).resultWord 8)).env.turns
      = sendFrameReads (ended .ok 0).statusWord (ended .ok 0).resultWord 8 ++ [] ∧
    (ended .onlyPartialResponse 7).res.code = .onlyPartialResponse ∧ 7 = (ended .onlyPartialResponse 7).res.count.toNat ∧
    stopped.res.done = false ∧ (ended .noChecksumReceived 0).res.code ≠ .ok ∧
    (ended .noChecksumReceived 0).res.code ≠ .onlyPartialResponse := by decide

/-- R123: on OnlyPartialResponse(2) of a buffer of 4, `RD BUF[0]`, `RD BUF[1]`; after a halt, nothing. -/
theorem test_reads_after_partial :
    readFrameReads (ended .onlyPartialResponse 2).statusWord (ended .onlyPartialResponse 2).resultWord 4
      = [.read 0x18, .read 0x19] ∧ sendFrameReads stopped.statusWord stopped.resultWord 2 = [] := by decide

/-- A profile whose timeout and inter-frame space are the values at the edge of 32 bits (R145). -/
def edge (sel : BitVec 2) (n : Word) : Profile :=
  { Profile.default .thisHardware with rtoSel := sel, rtoN := n, ifsSel := sel, ifsN := n }

theorem witness_BitPeriodTable :
    (Profile.default .thisHardware).speed = 2 ∧ ({ Profile.default .thisHardware with speed := 3 } : Profile).speed = 3 := by decide

theorem witness_BreakLengthRange :
    ({ Profile.default .thisHardware with brkSel := 1, brkExtra := 255, speed := 0 } : Profile).breakNs = 27916488 ∧
    ({ Profile.default .thisHardware with brkSel := 0, speed := 3 } : Profile).breakNs = 650000 := by decide

theorem witness_WakeupLength :
    ({ Profile.default .thisHardware with wakeSel := 2, wakeNs := 0xFFFFFFFF } : Profile).wakeupNs = some 4294967295 ∧
    ({ Profile.default .thisHardware with wakeSel := 0, wakeNs := 0xFFFFFFFF } : Profile).wakeupNs = some 250000 := by decide

theorem witness_TimeoutAndSpaceLengths :
    (edge 1 4294967).rtoN.toNat ≤ 4294967 ∧ 4294967 < (edge 1 4294968).rtoN.toNat ∧ (edge 2 4294).ifsN.toNat ≤ 4294 ∧
    4294 < (edge 2 4295).ifsN.toNat ∧ (edge 1 4294967).rtoNs = some 4294967000 ∧ (edge 1 4294968).rtoNs = none ∧
    (edge 2 4294).ifsNs = some 4294000000 ∧ (edge 2 4295).ifsNs = none ∧ (edge 0 0xFFFFFFFF).rtoNs = some 0 := by decide

theorem witness_DelayRoundsUpToPeriods :
    1 ≤ Config.thisHardware.tickNs ∧ periodsFor { assertLevel := 1, tickNs := 7, defaultRtoMs := 2 } 8 = 2 := by decide

/-- SEND_BREAK inside its asserted interval, 5 ns to go. -/
def inDelay : State := { busy .sendBreak 2 with ctl := { (busy .sendBreak 2).ctl with dly := 5 }, line := 1 }

theorem witness_DelayIsServedInFull :
    inDelay.action = .delay (some 677079) ∧ inDelay.ctl.dly ≠ 0 ∧ inDelay.env.turns = [] ∧ goesOn (step inDelay) = true ∧
    goesOn (step (withTurn inDelay (.ticks 3))) = true := by decide

theorem witness_InitInstallsOrIsRefused :
    ready.ctl.eng = .idle ∧ ready.staging.wakeSel ≠ 3 ∧ ready.staging.rtoSel ≠ 3 ∧ ready.staging.ifsSel ≠ 3 ∧
    ({ ready with staging := edge 3 0 } : State).ctl.eng = .idle ∧ ({ ready with staging := edge 3 0 } : State).staging.rtoSel = 3 := by
  decide

theorem witness_ReservedOpcodesAreRefused : ready.ctl.eng = .idle ∧ decodeCmd 0 = .cmdReserved0 ∧ decodeCmd 7 = .cmdReserved7 := by
  decide

theorem witness_CommandsAreIgnoredOutsideIdle : inDelay.ctl.eng ≠ .idle ∧ stopped.ctl.eng ≠ .idle := by decide

theorem witness_SendBreakPulsesAndCompletes : ready.ctl.eng = .idle ∧ ready.env.turns = [] := by decide

/-- The profile with a Custom wakeup of n nanoseconds is in force. -/
def customWakeup (n : Word) : State := { ready with active := { ready.active with wakeSel := 2, wakeNs := n } }

theorem witness_SendWakeupPulsesOrHalts :
    (customWakeup 5000000).ctl.eng = .idle ∧ (customWakeup 5000000).active.wakeupNs = some 5000000 ∧ 5000000 ≤ 5000000 ∧
    (customWakeup 5000000).env.turns = [] ∧ (customWakeup 5000001).active.wakeupNs = some 5000001 ∧ 5000000 < 5000001 := by
  decide

/-- OP_LEN = n, with an inter-frame space and a timeout that fit 32 bits or not. -/
def withLen (n : BitVec 4) (p : Profile) : State := { ready with ops := { ready.ops with len := n }, active := p }

theorem witness_SendFramePrecheckHalts :
    (withLen 0 (edge 2 1)).ctl.eng = .idle ∧ (withLen 0 (edge 2 1)).ops.len.toNat = 0 ∧ 8 < (withLen 9 (edge 2 1)).ops.len.toNat ∧
    1 ≤ (withLen 1 (edge 2 4295)).ops.len.toNat ∧ (withLen 8 (edge 2 4295)).ops.len.toNat ≤ 8 ∧
    (withLen 8 (edge 2 4295)).active.ifsNs = none := by decide

theorem witness_SendFrameBuildsTheFrame :
    (withLen 8 (edge 2 4294)).ctl.eng = .idle ∧ 1 ≤ (withLen 1 (edge 2 4294)).ops.len.toNat ∧
    1 ≤ (withLen 8 (edge 2 4294)).ops.len.toNat ∧ (withLen 8 (edge 2 4294)).ops.len.toNat ≤ 8 ∧
    (withLen 8 (edge 2 4294)).active.ifsNs ≠ none := by decide

/-- Operands of 2 bytes, five Ok answers and an Ok flush to come. -/
def sending : State := (ready.setTxAns (List.replicate 5 ⟨0, 0⟩ ++ [⟨1, 9⟩])).setFlushAns [0, 1]

theorem witness_SendFrameSendsTheFrame :
    sending.ctl.eng = .idle ∧ sending.env.turns = [] ∧ 1 ≤ sending.ops.len.toNat ∧ sending.ops.len.toNat ≤ 8 ∧
    sending.active.ifsNs = some 1000000 ∧ (List.replicate 5 (⟨0, 0⟩ : TxWord)).length = 3 + sending.ops.len.toNat ∧
    (∀ w ∈ List.replicate 5 (⟨0, 0⟩ : TxWord), w.ans = 0) ∧ sending.env.txAns = List.replicate 5 ⟨0, 0⟩ ++ [⟨1, 9⟩] ∧
    sending.env.flushAns = 0 :: [1] := by decide

theorem witness_TxOkTakesTheByte :
    (bursting 3).ctl.eng = .busy ∧ (bursting 3).ctl.curOp = .sendFrame ∧ (bursting 3).ctl.stepNo = 6 ∧
    (bursting 3).frame[(bursting 3).ctl.txi.toNat]? = some 0xA2 ∧ (bursting 4).frame[(bursting 4).ctl.txi.toNat]? = some 0x5D ∧
    (busy .readFrame 6).ctl.eng = .busy ∧ (busy .readFrame 6).ctl.curOp = .readFrame ∧ (busy .readFrame 6).ctl.stepNo = 6 ∧
    (busy .readFrame 7).ctl.stepNo = 7 ∧ (busy .readFrame 7).active.rtoNs = some 2000000 := by decide

theorem witness_TxErrAbortsTheCommand :
    (bursting 0).ctl.eng = .busy ∧ (bursting 0).ctl.curOp = .sendFrame ∧ (bursting 0).ctl.stepNo = 6 ∧
    (bursting 0).frame[(bursting 0).ctl.txi.toNat]? = some 0x55 ∧ (busy .readFrame 6).ctl.stepNo = 6 ∧
    (busy .readFrame 7).ctl.curOp = .readFrame ∧ (busy .readFrame 7).ctl.stepNo = 7 ∧ (0x3C : Byte) = (busy .readFrame 7).ops.id := by
  decide

theorem witness_FlushAnswersAtSendFrame :
    (busy .sendFrame 7).ctl.eng = .busy ∧ (busy .sendFrame 7).ctl.curOp = .sendFrame ∧ (busy .sendFrame 7).ctl.stepNo = 7 ∧
    (busy .sendFrame 7).active.ifsNs = some 1000000 := by decide

theorem witness_ReadFramePrecheckHalts :
    (withLen 0 (edge 2 1)).ops.len.toNat = 0 ∧ 8 < (withLen 15 (edge 2 1)).ops.len.toNat ∧
    (withLen 8 (edge 1 4294968)).ctl.eng = .idle ∧ 1 ≤ (withLen 8 (edge 1 4294968)).ops.len.toNat ∧
    (withLen 8 (edge 1 4294968)).ops.len.toNat ≤ 8 ∧ (withLen 8 (edge 1 4294968)).active.rtoNs = none := by decide

/-- Two Ok answers to come. -/
def reading : State := ready.setTxAns [⟨0, 1⟩, ⟨0, 2⟩, ⟨1, 3⟩]

theorem witness_ReadFrameReachesTheParse :
    reading.ctl.eng = .idle ∧ 1 ≤ reading.ops.len.toNat ∧ reading.ops.len.toNat ≤ 8 ∧ reading.active.ifsNs = some 1000000 ∧
    reading.active.rtoNs = some 2000000 ∧ reading.env.turns = [] ∧ reading.env.txAns = ⟨0, 1⟩ :: ⟨0, 2⟩ :: [⟨1, 3⟩] := by decide

theorem witness_AwaitSyncOnByte :
    (parsing .awaitSync 0).ctl.eng = .busy ∧ (parsing .awaitSync 0).ctl.curOp = .readFrame ∧ (parsing .awaitSync 0).ctl.stepNo = 9 ∧
    (parsing .awaitSync 0).parser.phase = .awaitSync ∧ (0x54 : Byte) ≠ 0x55 := by decide

theorem witness_AwaitIdOnByte :
    (parsing .awaitId 0).ctl.eng = .busy ∧ (parsing .awaitId 0).ctl.curOp = .readFrame ∧ (parsing .awaitId 0).ctl.stepNo = 9 ∧
    (parsing .awaitId 0).parser.phase = .awaitId ∧ (0x3C : Byte) = (parsing .awaitId 0).ops.id ∧
    (0x55 : Byte) ≠ (parsing .awaitId 0).ops.id := by decide

theorem witness_ReadDataOnByte :
    (parsing .readData 0).ctl.eng = .busy ∧ (parsing .readData 0).ctl.curOp = .readFrame ∧ (parsing .readData 0).ctl.stepNo = 9 ∧
    (parsing .readData 0).parser.phase = .readData ∧ (parsing .readData 0).ops.len.toNat ≤ 8 ∧
    (parsing .readData 0).parser.count.toNat + 1 < (parsing .readData 0).ops.len.toNat ∧
    (parsing .readData 1).parser.count.toNat + 1 = (parsing .readData 1).ops.len.toNat := by decide

theorem witness_AwaitChecksumOnByte :
    (parsing .awaitChecksum 2).ctl.eng = .busy ∧ (parsing .awaitChecksum 2).ctl.curOp = .readFrame ∧
    (parsing .awaitChecksum 2).ctl.stepNo = 9 ∧ (parsing .awaitChecksum 2).parser.phase = .awaitChecksum ∧
    (parsing .awaitChecksum 2).active.ifsNs = some 1000000 := by decide

theorem witness_ParseStopsOnWouldBlockOrError :
    (parsing .awaitChecksum 2).ctl.eng = .busy ∧ (parsing .awaitChecksum 2).ctl.curOp = .readFrame ∧
    (parsing .awaitChecksum 2).ctl.stepNo = 9 ∧ (parsing .awaitChecksum 2).parser.phase ≠ .done ∧
    (parsing .awaitChecksum 2).active.ifsNs = some 1000000 := by decide

theorem witness_AnswersOutOfPlaceAreRefused :
    ready.polling = false ∧ encode .rxWouldBlock = .rx ⟨0, 0, 0⟩ ∧ (parsing .awaitId 0).polling = true ∧
    Instr.guard (parsing .awaitId 0).view (.rxByteAwaitIdMatch 0x3D) = false ∧ encode (.rxByteAwaitIdMatch 0x3D) = .rx ⟨1, 0x3D, 0⟩ ∧
    ready.action = .none ∧ encode .txOk = .tx ⟨0, 0⟩ ∧ ready.action ≠ .flush ∧ encode .flushFail = .flush 1 := by decide

/-- READ_FRAME in its trailing delay, in parser state q. -/
def atSelect (q : Parser) : State := { busy .readFrame 10 with parser := q }

theorem witness_ReadFrameResultSelection :
    (atSelect (parsing .readData 1).parser).ctl.eng = .busy ∧ (atSelect (parsing .readData 1).parser).ctl.curOp = .readFrame ∧
    (atSelect (parsing .readData 1).parser).ctl.stepNo = 10 ∧ (atSelect (parsing .readData 1).parser).env.turns = [] ∧
    (atSelect (parsing .readData 1).parser).parser.rxErrV = false ∧ (atSelect (parsing .readData 1).parser).parser.syncSeen = true ∧
    (atSelect (parsing .readData 1).parser).parser.count ≠ 0 ∧ (atSelect (parsing .readData 0).parser).parser.count = 0 ∧
    (atSelect (parsing .awaitSync 0).parser).parser.syncSeen = false ∧ (atSelect (parsing .done 2).parser).parser.phase = .done ∧
    (atSelect { (parsing .awaitId 0).parser with rxErrV := true }).parser.rxErrV = true := by decide

theorem witness_ReadFrameClassifiesEveryStream :
    (polling (silentAfter [0x55, 0x3C, 0xA1] ++ [])).ctl.eng = .busy ∧
    (polling (silentAfter [0x55, 0x3C, 0xA1] ++ [])).ctl.curOp = .readFrame ∧
    (polling (silentAfter [0x55, 0x3C, 0xA1] ++ [])).ctl.stepNo = 9 ∧ (polling (silentAfter [0x55, 0x3C, 0xA1] ++ [])).env.turns = [] ∧
    1 ≤ (polling (silentAfter [0x55, 0x3C, 0xA1] ++ [])).ops.len.toNat ∧
    (polling (silentAfter [0x55, 0x3C, 0xA1] ++ [])).ops.len.toNat ≤ 8 ∧
    (polling (silentAfter [0x55, 0x3C, 0xA1] ++ [])).active.ifsNs = some 1000000 ∧
    (polling (silentAfter [0x55, 0x3C, 0xA1] ++ [])).parser =
      { phase := .awaitSync, syncSeen := false, count := 0, chk := 0, rxErrV := false, rxErr := 0 } ∧
    (polling (silentAfter [0x55, 0x3C, 0xA1] ++ [])).env.rxAns = silentAfter [0x55, 0x3C, 0xA1] ++ [] := by decide

/-- V40, V20, V21, V22, V24 (with two bytes) and V25 (with two bytes), by the list function of the statement. -/
theorem test_stream_outcomes :
    streamOutcome 0x3C 2 [0x55, 0x3C, 0xA1] = (.onlyPartialResponse, 1, 0) ∧
    streamOutcome 0x3C 2 [0x00, 0xFF, 0x3C, 0xAA] = (.syncByteNotReceivedBack, 0, 0) ∧
    streamOutcome 0x3C 2 [0x55, 0x3D] = (.idByteNotReceivedBack, 0, 0) ∧
    streamOutcome 0x3C 2 [0x55, 0x3C] = (.deviceTimeoutNoResponse, 0, 0) ∧
    streamOutcome 0x3C 2 [0x55, 0x3C, 0xD0, 0xD1] = (.noChecksumReceived, 0, 0) ∧
    streamOutcome 0x3C 2 [0x55, 0x3C, 0xD0, 0xD1, 0x9B] = (.ok, 0, 0x9B) := by decide

/-- V31, V33, V35: a dropped 0x55, recovery after a false sync, an id equal to the sync byte. -/
theorem test_stream_resync :
    streamOutcome 0x3C 1 [0x55, 0x55, 0x3C, 0x11, 0x22] = (.idByteNotReceivedBack, 0, 0) ∧
    streamOutcome 0x3C 1 [0x55, 0x12, 0x55, 0x3C, 0xAA, 0x99] = (.ok, 0, 0x99) ∧
    streamOutcome 0x55 1 [0x55, 0x55, 0xA1, 0x7E] = (.ok, 0, 0x7E) := by decide

/-- The answers of a whole response of two bytes. -/
def response : List RxWord := byteAnswers ([0x55, 0x3C] ++ [0xA1, 0xA2] ++ [0x5D]) ++ [⟨0, 0, 0⟩]

theorem witness_SentFrameIsReadBack :
    (polling response).ctl.eng = .busy ∧ (polling response).ctl.curOp = .readFrame ∧ (polling response).ctl.stepNo = 9 ∧
    (polling response).env.turns = [] ∧ (polling response).active.ifsNs = some 1000000 ∧
    (polling response).parser = { phase := .awaitSync, syncSeen := false, count := 0, chk := 0, rxErrV := false, rxErr := 0 } ∧
    1 ≤ [0xA1#8, 0xA2#8].length ∧ [0xA1#8, 0xA2#8].length ≤ 8 ∧ (polling response).ops.len.toNat = [0xA1#8, 0xA2#8].length ∧
    (polling response).env.rxAns = byteAnswers ([0x55, (polling response).ops.id] ++ [0xA1, 0xA2] ++ [0x5D]) ++ [⟨0, 0, 0⟩] := by
  decide

theorem witness_BabblingBusKeepsPolling :
    (polling (byteAnswers [0x00, 0x3C] ++ [])).ctl.eng = .busy ∧ (polling (byteAnswers [0x00, 0x3C] ++ [])).ctl.curOp = .readFrame ∧
    (polling (byteAnswers [0x00, 0x3C] ++ [])).ctl.stepNo = 9 ∧ (polling (byteAnswers [0x00, 0x3C] ++ [])).env.turns = [] ∧
    (polling (byteAnswers [0x00, 0x3C] ++ [])).parser.phase = .awaitSync ∧ (∀ b ∈ [0x00#8, 0x3C#8], b ≠ 0x55) ∧
    (polling (byteAnswers [0x00, 0x3C] ++ [])).env.rxAns = byteAnswers [0x00, 0x3C] ++ [] := by decide

theorem witness_EndlessStreamNeverEnds :
    babbling.ctl.eng = .busy ∧ babbling.ctl.curOp = .readFrame ∧ babbling.ctl.stepNo = 9 ∧ babbling.env.turns = [] ∧
    babbling.parser.phase = .awaitSync ∧ (∀ b ∈ [0x3C#8], b ≠ 0x55) ∧ (∀ b ∈ [0x00#8], b ≠ 0x55) ∧ [0x00#8] ≠ [] ∧
    babbling.env.rxAns = byteAnswers [0x3C] ∧ babbling.env.rxLoop = byteAnswers [0x00] := by decide

/-- V52: the repeated byte is polled again when the list is used up, and comes again after that. -/
theorem test_endless_stream :
    (after (step (babbling.setRxAns []))).ctl = babbling.ctl ∧
    (after (step (babbling.setRxAns []))).env.trace = [.rx (.byte 0x00)] ∧
    (after (step (babbling.setRxAns []))).env.rxLoop = byteAnswers [0x00] := by decide

/-- `reading` with another past: another parser, another buffer, another checksum operand. -/
def readingAgain : State :=
  { reading with
    parser := (parsing .done 2).parser
    buf := Vector.replicate 8 0xFF
    ops := { reading.ops with chk := 0, data := Vector.replicate 8 0 } }

theorem witness_ReadFrameForgetsThePast :
    reading.ctl.eng = .idle ∧ readingAgain.ctl.eng = .idle ∧ reading.cfg = readingAgain.cfg ∧ reading.active = readingAgain.active ∧
    reading.ops.id = readingAgain.ops.id ∧ reading.ops.len = readingAgain.ops.len ∧ reading.env.turns = [] ∧
    readingAgain.env.turns = [] ∧ reading.env.txAns = readingAgain.env.txAns ∧ reading.env.rxAns = readingAgain.env.rxAns ∧
    reading.env.rxLoop = readingAgain.env.rxLoop ∧
    1 ≤ reading.ops.len.toNat ∧ reading.ops.len.toNat ≤ 8 ∧ reading.active.ifsNs ≠ none ∧ reading.active.rtoNs ≠ none := by decide

/-! The invariant holds of a READ_FRAME at its first poll, of a break under way, of a burst at its last byte and of a
halted engine; each of its eight parts is decided. -/

theorem test_inv_polling : StateInv (polling response) :=
  ⟨by decide, by decide, by decide, by decide, by decide, by decide, by decide, by decide⟩

theorem test_inv_in_delay : StateInv inDelay :=
  ⟨by decide, by decide, by decide, by decide, by decide, by decide, by decide, by decide⟩

theorem test_inv_bursting : StateInv (bursting 4) :=
  ⟨by decide, by decide, by decide, by decide, by decide, by decide, by decide, by decide⟩

theorem test_inv_halted : StateInv stopped :=
  ⟨by decide, by decide, by decide, by decide, by decide, by decide, by decide, by decide⟩

theorem witness_StepKeepsTheInvariant :
    StateInv (polling response) ∧ step (polling response) = .next (after (step (polling response))) ∧
    StateInv inDelay ∧ step inDelay = .next (after (step inDelay)) := ⟨test_inv_polling, rfl, test_inv_in_delay, rfl⟩

theorem witness_StepNeverRefuses :
    StateInv (polling response) ∧ StateInv (bursting 4) ∧ StateInv stopped ∧ stopped.ctl.eng = .halted ∧
    stopped.env.turns = [] := ⟨test_inv_polling, test_inv_bursting, test_inv_halted, by decide, by decide⟩

theorem witness_ActiveProfileChangesAsAWhole :
    goesOn (step (withTurn ready (.write 0x0B 1))) = true ∧ ready.staging.hasReservedSelector = false ∧
    goesOn (step (withTurn { ready with staging := edge 3 0 } (.write 0x0B 1))) = true ∧
    (edge 3 0).hasReservedSelector = true ∧ goesOn (step (withTurn ready .reset)) = true := by decide

theorem witness_DataRegistersHaveTheirWriters :
    goesOn (step (withTurn ready (.write 0x08 1))) = true ∧ (after (step (withTurn ready (.write 0x08 1)))).ops ≠ ready.ops ∧
    goesOn (step (withTurn ready (.write 0x0B 4))) = true ∧ (after (step (withTurn ready (.write 0x0B 4)))).frameLen ≠ ready.frameLen ∧
    (after (step (withTurn ready (.write 0x0B 2)))).line ≠ ready.line ∧
    (after (step ((parsing .readData 0).setRxAns [⟨1, 0xA1, 0⟩]))).buf ≠ (parsing .readData 0).buf ∧
    goesOn (step ((parsing .readData 0).setRxAns [⟨1, 0xA1, 0⟩])) = true ∧ (parsing .readData 0).polling = true := by decide

/-- A step into each way the parser's registers change: the initialisation at the end of STEP 8, the back edge, the last
capture. -/
theorem witness_ParserRegistersHaveTheirWriters :
    goesOn (step { parsing .done 2 with ctl := { (parsing .done 2).ctl with stepNo := 8 } }) = true ∧
    (after (step { parsing .done 2 with ctl := { (parsing .done 2).ctl with stepNo := 8 } })).parser ≠ (parsing .done 2).parser ∧
    goesOn (step ((parsing .awaitId 0).setRxAns [⟨1, 0x55, 0⟩])) = true ∧
    (after (step ((parsing .awaitId 0).setRxAns [⟨1, 0x55, 0⟩]))).parser.phase = .awaitSync ∧
    goesOn (step ((parsing .awaitChecksum 2).setRxAns [⟨1, 0x5D, 0⟩])) = true ∧
    (after (step ((parsing .awaitChecksum 2).setRxAns [⟨1, 0x5D, 0⟩]))).parser.chk = 0x5D := by decide

theorem witness_TraceOnlyGrows :
    goesOn (step (polling response)) = true ∧ (polling response).ctl.curOp = .readFrame := by decide

theorem witness_UnansweredActionWaits :
    (bursting 4).env.turns = [] ∧ (bursting 4).action = .tx 0x5D false ∧ (bursting 4).env.txAns = [] ∧
    (busy .sendFrame 7).action = .flush ∧ (busy .sendFrame 7).env.flushAns = [] ∧ (polling []).polling = true ∧
    (polling []).env.rxAns = [] ∧ (polling []).env.rxLoop = [] := by decide

theorem witness_PortsShowThePendingAction :
    ready.ctl.eng ≠ .busy ∧ (bursting 4).ctl.eng = .busy ∧ (bursting 4).ctl.curOp = .sendFrame ∧ (bursting 4).ctl.stepNo = 6 ∧
    (bursting 4).frame[(bursting 4).ctl.txi.toNat]? = some 0x5D ∧ (busy .sendFrame 7).ctl.stepNo = 7 ∧
    (busy .readFrame 6).ctl.eng = .busy ∧ (busy .readFrame 6).ctl.curOp = .readFrame ∧ (busy .readFrame 6).ctl.stepNo = 6 ∧
    (busy .readFrame 7).ctl.stepNo = 7 ∧ (polling []).ctl.stepNo = 9 ∧ (polling []).parser.phase ≠ .done := by decide

theorem witness_WaitEndsOnDoneOrFatal :
    (withTurn stopped .wait).env.turns = .wait :: [] ∧ (withTurn stopped .wait).ctl.eng = .halted ∧
    (withTurn inDelay .wait).env.turns = .wait :: [] ∧ (withTurn inDelay .wait).res.done = false ∧
    (withTurn inDelay .wait).ctl.eng ≠ .halted := by decide

end Sys2Proof.Tests
end

section
/-! PROOFS. The register file (10_state.md R33, R52, R53): the access rule of reads and writes, and the fields of STATUS,
RESULT and FATAL_CAUSE. -/

namespace Sys2Proof.Machine

/-! ### Writes that are ignored (R33) -/

/-- Whatever its low bits, a command word is carried out through onIdle (R105). -/
theorem exec_decodeCmd_eq_onIdle (w : Word) : ∃ f, exec (decodeCmd w) = onIdle f := by
  unfold decodeCmd
  split <;> exact ⟨_, rfl⟩

theorem exec_decodeCmd_of_not_idle {s : State} (h : s.ctl.eng ≠ .idle) (w : Word) : exec (decodeCmd w) s = .next s := by
  obtain ⟨f, hf⟩ := exec_decodeCmd_eq_onIdle w
  rw [hf, onIdle_of_not_idle h]

theorem writeReg_of_not_idle {s : State} (h : s.ctl.eng ≠ .idle) (a : BitVec 6) (d : Word) : s.writeReg a d = s := by
  simp [State.writeReg, h]

/-- The read-only numbers, CMD and the reserved numbers store nothing (R32, R56). -/
theorem storeReg_of_readOnly (s : State) {a : BitVec 6} (h : (11 ≤ a.toNat ∧ a.toNat < 16) ∨ 24 ≤ a.toNat) (d : Word) :
    s.storeReg a d = s := by
  rcases storeReg_cases s a d with ⟨ha, -⟩ | ⟨rfl, -⟩ | ⟨rfl, -⟩ | ⟨rfl, -⟩ | ⟨ha, ha', -⟩ | ⟨-, hs⟩
  · omega
  · simp at h
  · simp at h
  · simp at h
  · omega
  · exact hs

theorem writeReg_of_readOnly (s : State) {a : BitVec 6} (h : (11 ≤ a.toNat ∧ a.toNat < 16) ∨ 24 ≤ a.toNat) (d : Word) :
    s.writeReg a d = s := by
  simp [State.writeReg, storeReg_of_readOnly s h]

theorem hostWrite_of_not_idle {s : State} (h : s.ctl.eng ≠ .idle) (a : BitVec 6) (d : Word) :
    hostWrite a d s = .next s := by
  by_cases ha : a = cmdReg
  · simp [hostWrite, ha, exec_decodeCmd_of_not_idle h]
  · simp [hostWrite, ha, writeReg_of_not_idle h]

theorem hostWrite_of_readOnly (s : State) {a : BitVec 6} (ha : a ≠ cmdReg)
    (h : (11 ≤ a.toNat ∧ a.toNat < 16) ∨ 24 ≤ a.toNat) (d : Word) : hostWrite a d s = .next s := by
  simp [hostWrite, ha, writeReg_of_readOnly s h]

/-- A write that the register file and the engine both ignore uses up its turn and nothing else. -/
theorem step_ignoredWrite {s : State} {a : BitVec 6} {d : Word} {rest : List Turn} (ht : s.env.turns = .write a d :: rest)
    (hw : hostWrite a d (s.setTurns rest) = .next (s.setTurns rest)) :
    step s = .next { s with env := { s.env with turns := rest } } := by
  rw [step_of_turn ht]
  exact hw

/-- Settles O10: reads by step_read, writes in IDLE by step_write, and the two kinds of ignored writes. -/
theorem registerAccessRule : Obligations.RegisterAccessRule := by
  intro s a d rest
  refine ⟨step_read, fun ht hi => ?_, step_write, fun ht ha => ?_⟩
  · exact step_ignoredWrite ht (hostWrite_of_not_idle (s := s.setTurns rest) hi a d)
  · have hc : a ≠ cmdReg := by
      rintro rfl
      simp [cmdReg] at ha
    exact step_ignoredWrite ht (hostWrite_of_readOnly _ hc (by omega) d)

/-! ### The fields of STATUS (R52) and RESULT (R53): each is reached by passing over the fields below it -/

section Fields

open BitVec

variable (s : State)

@[simp] theorem statusWord_busy : s.statusWord.extractLsb' 0 1 = ofBool s.busy := by
  unfold State.statusWord
  exact extractLsb'_append_eq_right

@[simp] theorem statusWord_done : s.statusWord.extractLsb' 1 1 = ofBool s.res.done := by
  unfold State.statusWord
  rw [extractLsb'_append_eq_of_le (by decide)]
  exact extractLsb'_append_eq_right

@[simp] theorem statusWord_fatal : s.statusWord.extractLsb' 2 1 = ofBool s.isHalted := by
  unfold State.statusWord
  iterate 2 rw [extractLsb'_append_eq_of_le (by decide)]
  exact extractLsb'_append_eq_right

@[simp] theorem statusWord_line : s.statusWord.extractLsb' 3 1 = s.line := by
  unfold State.statusWord
  iterate 3 rw [extractLsb'_append_eq_of_le (by decide)]
  exact extractLsb'_append_eq_right

@[simp] theorem statusWord_phase : s.statusWord.extractLsb' 4 3 = phaseCode s.parser.phase := by
  unfold State.statusWord
  iterate 4 rw [extractLsb'_append_eq_of_le (by decide)]
  exact extractLsb'_append_eq_right

@[simp] theorem statusWord_syncSeen : s.statusWord.extractLsb' 7 1 = ofBool s.parser.syncSeen := by
  unfold State.statusWord
  iterate 5 rw [extractLsb'_append_eq_of_le (by decide)]
  exact extractLsb'_append_eq_right

@[simp] theorem statusWord_count : s.statusWord.extractLsb' 8 4 = s.parser.count := by
  unfold State.statusWord
  iterate 6 rw [extractLsb'_append_eq_of_le (by decide)]
  exact extractLsb'_append_eq_right

@[simp] theorem statusWord_curOp : s.statusWord.extractLsb' 12 3 = opCode s.ctl.curOp := by
  unfold State.statusWord
  iterate 7 rw [extractLsb'_append_eq_of_le (by decide)]
  exact extractLsb'_append_eq_right

@[simp] theorem statusWord_zeros : s.statusWord.extractLsb' 15 17 = 0 := by
  unfold State.statusWord
  iterate 8 rw [extractLsb'_append_eq_of_le (by decide)]
  exact extractLsb'_eq_self

@[simp] theorem resultWord_code : s.resultWord.extractLsb' 0 4 = resultCode s.res.code := by
  unfold State.resultWord
  exact extractLsb'_append_eq_right

@[simp] theorem resultWord_count : s.resultWord.extractLsb' 4 4 = s.res.count := by
  unfold State.resultWord
  rw [extractLsb'_append_eq_of_le (by decide)]
  exact extractLsb'_append_eq_right

@[simp] theorem resultWord_chk : s.resultWord.extractLsb' 8 8 = s.res.chk := by
  unfold State.resultWord
  iterate 2 rw [extractLsb'_append_eq_of_le (by decide)]
  exact extractLsb'_append_eq_right

@[simp] theorem resultWord_err : s.resultWord.extractLsb' 16 8 = s.res.err := by
  unfold State.resultWord
  iterate 3 rw [extractLsb'_append_eq_of_le (by decide)]
  exact extractLsb'_append_eq_right

@[simp] theorem resultWord_zeros : s.resultWord.extractLsb' 24 8 = 0 := by
  unfold State.resultWord
  iterate 4 rw [extractLsb'_append_eq_of_le (by decide)]
  exact extractLsb'_eq_self

end Fields

/-- A one-bit field is 1 exactly where its flag holds. -/
theorem ofBool_eq_one_iff (b : Bool) : BitVec.ofBool b = 1 ↔ b = true :=
  BitVec.ofBool_eq_iff_eq (b' := true)

theorem busy_iff (s : State) : s.busy = true ↔ s.ctl.eng = .busy := beq_iff_eq

theorem isHalted_iff (s : State) : s.isHalted = true ↔ s.ctl.eng = .halted := beq_iff_eq

/-- Settles O13: the bit fields by the field lemmas, the code numbers by evaluation. -/
theorem statusWordLayout : Obligations.StatusWordLayout := by
  intro s
  refine ⟨rfl, ?_, ?_, ?_, statusWord_line s, statusWord_phase s, ?_, statusWord_count s, statusWord_curOp s,
    statusWord_zeros s, by decide⟩
  · rw [statusWord_busy, ofBool_eq_one_iff, busy_iff]
  · rw [statusWord_done, ofBool_eq_one_iff]
  · rw [statusWord_fatal, ofBool_eq_one_iff, isHalted_iff]
  · rw [statusWord_syncSeen, ofBool_eq_one_iff]

/-! ### The FATAL_CAUSE register (R53) -/

theorem fatalCauseWord_cause (s : State) : s.fatalCauseWord.extractLsb' 0 2 = fatalCode s.res.fatalCause := by
  rw [State.fatalCauseWord, BitVec.extractLsb'_setWidth_of_le (by decide), BitVec.extractLsb'_eq_self]

theorem fatalCauseWord_zeros (s : State) : s.fatalCauseWord.extractLsb' 2 30 = 0 := by
  unfold State.fatalCauseWord
  cases s.res.fatalCause <;> rfl

/-- Settles O14: the fields of both words by the field lemmas, the code numbers by evaluation. -/
theorem resultWordLayout : Obligations.ResultWordLayout := by
  intro s
  exact ⟨rfl, resultWord_code s, resultWord_count s, resultWord_chk s, resultWord_err s, resultWord_zeros s,
    fatalCauseWord_cause s, fatalCauseWord_zeros s, by decide⟩

end Sys2Proof.Machine
end

section
/-! PROOFS. The durations of a profile (40_timing_profile.md R140 to R146): the bit period and what its truncation loses,
the wakeup pulse, and the three forms that the response timeout and the inter-frame space share. -/

namespace Sys2Proof.Machine

/-! ### The bit period (R140, R141) -/

theorem baudRate_pos (v : BitVec 2) : 0 < baudRate v := by
  rcases speed_cases v with rfl | rfl | rfl | rfl <;> decide

theorem bitNs_mul_baudRate_le (p : Profile) : p.bitNs * baudRate p.speed ≤ 1000000000 :=
  Nat.div_mul_le_self 1000000000 (baudRate p.speed)

/-- What the truncation loses is the remainder of the division. -/
theorem bitNs_loss_lt (p : Profile) : 1000000000 - p.bitNs * baudRate p.speed < baudRate p.speed := by
  rw [Profile.bitNs, ← Nat.mod_eq_sub_div_mul]
  exact Nat.mod_lt _ (baudRate_pos p.speed)

/-- The bit period is a function of the speed code alone. -/
theorem bitNs_of_speed {p : Profile} {v : BitVec 2} (h : p.speed = v) : p.bitNs = 1000000000 / baudRate v := by
  rw [Profile.bitNs, h]

/-- Settles O18: the table by one division for each code, the bound by the remainder of the division. -/
theorem bitPeriodTable : Obligations.BitPeriodTable := by
  intro p
  exact ⟨bitNs_of_speed, bitNs_of_speed, bitNs_of_speed, bitNs_of_speed, rfl, bitNs_mul_baudRate_le p, bitNs_loss_lt p⟩

/-! ### The wakeup pulse (R144) -/

section Wakeup

variable {p : Profile}

theorem wakeupNs_of_sel_zero (h : p.wakeSel = 0) : p.wakeupNs = some 250000 := by
  simp [Profile.wakeupNs, h]

theorem wakeupNs_of_sel_one (h : p.wakeSel = 1) : p.wakeupNs = some 5000000 := by
  simp [Profile.wakeupNs, h]

theorem wakeupNs_of_sel_two (h : p.wakeSel = 2) : p.wakeupNs = some p.wakeNs.toNat := by
  simp [Profile.wakeupNs, h]

end Wakeup

/-- Settles O20, one selector at a time. -/
theorem wakeupLength : Obligations.WakeupLength := fun _ =>
  ⟨wakeupNs_of_sel_zero, wakeupNs_of_sel_one, wakeupNs_of_sel_two⟩

/-! ### The response timeout and the inter-frame space (R145, R146) -/

theorem product32_of_lt {n : Word} {unit : Nat} (h : n.toNat * unit < 4294967296) :
    product32 n unit = some (n.toNat * unit) := by
  simp [product32, fits32, h]

theorem product32_of_ge {n : Word} {unit : Nat} (h : 4294967296 ≤ n.toNat * unit) : product32 n unit = none := by
  simp [product32, fits32, h]

theorem policyNs_zero (n : Word) : policyNs 0 n = some 0 := by simp [policyNs]
theorem policyNs_micros (n : Word) : policyNs 1 n = product32 n 1000 := by simp [policyNs]
theorem policyNs_millis (n : Word) : policyNs 2 n = product32 n 1000000 := by simp [policyNs]

/-- The largest count of microseconds whose product fits 32 bits is 4,294,967. -/
theorem policyNs_micros_domain (n : Word) :
    (n.toNat ≤ 4294967 → policyNs 1 n = some (n.toNat * 1000)) ∧ (4294967 < n.toNat → policyNs 1 n = none) := by
  rw [policyNs_micros]
  exact ⟨fun _ => product32_of_lt (by omega), fun _ => product32_of_ge (by omega)⟩

/-- The largest count of milliseconds whose product fits 32 bits is 4,294. -/
theorem policyNs_millis_domain (n : Word) :
    (n.toNat ≤ 4294 → policyNs 2 n = some (n.toNat * 1000000)) ∧ (4294 < n.toNat → policyNs 2 n = none) := by
  rw [policyNs_millis]
  exact ⟨fun _ => product32_of_lt (by omega), fun _ => product32_of_ge (by omega)⟩

/-- Settles O21: both durations are the same function of their own selector and count, so each takes the three forms of
policyNs. -/
theorem timeoutAndSpaceLengths : Obligations.TimeoutAndSpaceLengths := by
  intro p
  unfold Profile.rtoNs Profile.ifsNs
  refine ⟨fun h => ?_, fun h => ?_, fun h => ?_, fun h => ?_, fun h => ?_, fun h => ?_⟩ <;> rw [h]
  · exact policyNs_zero p.rtoN
  · exact policyNs_micros_domain p.rtoN
  · exact policyNs_millis_domain p.rtoN
  · exact policyNs_zero p.ifsN
  · exact policyNs_micros_domain p.ifsN
  · exact policyNs_millis_domain p.ifsN

end Sys2Proof.Machine
end

section
/-! PROOFS. The frame transmitter (42_frame_tx.md R182, R186) and the header write of READ_FRAME (44_read_frame.md R235):
the halts of SEND_FRAME's precheck, and the TxByte that the transport does not take. -/

namespace Sys2Proof.Machine

/-! ### The precheck of SEND_FRAME (R182) -/

section Precheck

variable {s : State}

theorem precheckSendFrame_of_length (h : s.ops.len.toNat = 0 ∨ 8 < s.ops.len.toNat) :
    precheckSendFrame s = .dataLengthOutOfRange := by
  simp [precheckSendFrame, lengthLegal_false h]

theorem precheckSendFrame_of_ifs (h1 : 1 ≤ s.ops.len.toNat) (h8 : s.ops.len.toNat ≤ 8) (hi : s.active.ifsNs = none) :
    precheckSendFrame s = .durationOverflow := by
  simp [precheckSendFrame, (lengthLegal_iff s.ops).2 ⟨h1, h8⟩, hi]

/-- A test that fails stops the command right after its acceptance (R182); by hn the cause falls to the second arm of
execSendFrame's match. -/
theorem exec_sendFrame_of_precheck {c : FatalCause} (hi : s.ctl.eng = .idle) (hc : precheckSendFrame s = c)
    (hn : c ≠ .none) : exec .sendFrame s = .next ((s.accept .sendFrame).raiseFatal c) := by
  simp only [exec, execSendFrame, onIdle_of_idle hi, hc]

end Precheck

/-- Settles O29: either test that fails halts the accepted command with its own cause, and raiseFatal after accept is the
state written out. -/
theorem sendFramePrecheckHalts : Obligations.SendFramePrecheckHalts := by
  intro s hi
  exact ⟨fun h => exec_sendFrame_of_precheck hi (precheckSendFrame_of_length h) (by decide),
    fun h1 h8 hd => exec_sendFrame_of_precheck hi (precheckSendFrame_of_ifs h1 h8 hd) (by decide)⟩

/-! ### A TxByte that the transport does not take (R186, R235) -/

theorem frameAtTxi_of_get {s : State} {b : Byte} (h : s.frame[s.ctl.txi.toNat]? = some b) : s.frameAtTxi = b := by
  simp [State.frameAtTxi, h]

section TxAction

variable {s : State} (hb : s.ctl.eng = .busy)
include hb

/-- STEP 6 of SEND_FRAME is the TxByte of the frame's byte at TXI, and comes again while bytes are left (R181). -/
theorem action_sendFrame_burst {b : Byte} (ho : s.ctl.curOp = .sendFrame) (hk : s.ctl.stepNo = 6)
    (hf : s.frame[s.ctl.txi.toNat]? = some b) :
    s.action = .tx b (decide (s.ctl.txi.toNat + 1 < s.frameLen.toNat)) := by
  rw [action_sendFrame hb ho, hk, ← frameAtTxi_of_get hf]
  rfl

/-- STEP 6 of READ_FRAME is the TxByte of the header's sync byte (R231). -/
theorem action_readFrame_sync (ho : s.ctl.curOp = .readFrame) (hk : s.ctl.stepNo = 6) : s.action = .tx 0x55 false := by
  rw [action_readFrame hb ho, hk]
  rfl

/-- STEP 7 of READ_FRAME is the TxByte of the header's identifier (R231). -/
theorem action_readFrame_id (ho : s.ctl.curOp = .readFrame) (hk : s.ctl.stepNo = 7) :
    s.action = .tx s.ops.id false := by
  rw [action_readFrame hb ho, hk]
  rfl

end TxAction

/-- Whatever TxByte is pending, an Err answer to it ends the command (R111). -/
theorem exec_txErr_of_action {s : State} {b : Byte} {more : Bool} (h : s.action = .tx b more) (e : Byte) :
    exec (.txErr e) s = .next (s.txFailed e b) :=
  onTx_of_action h

/-- Settles O33: each of the three places has the TxByte of b under way, and txFailed is the state written out. -/
theorem txErrAbortsTheCommand : Obligations.TxErrAbortsTheCommand := by
  intro s e b hb hplace
  have hact : ∃ more, s.action = .tx b more := by
    rcases hplace with ⟨ho, hk, hf⟩ | ⟨ho, hk, rfl⟩ | ⟨ho, hk, rfl⟩
    · exact ⟨_, action_sendFrame_burst hb ho hk hf⟩
    · exact ⟨false, action_readFrame_sync hb ho hk⟩
    · exact ⟨false, action_readFrame_id hb ho hk⟩
  obtain ⟨more, h⟩ := hact
  exact exec_txErr_of_action h e

end Sys2Proof.Machine
end

section
/-! PROOFS. The parser's transitions on a byte (43_resync_parser.md R202 to R207): each row's meaning is its named
operation on the recorded state, and where a data byte lands in BUF. -/

namespace Sys2Proof.Machine

/-! ### The rows of RX_BYTE up to ReadData, each under its guard -/

/-- In any phase but Done the parse loop polls (R212). -/
theorem polling_of_phase {s : State} {p : Phase} (hb : s.ctl.eng = .busy) (ho : s.ctl.curOp = .readFrame)
    (hk : s.ctl.stepNo = 9) (hph : s.parser.phase = p) (hd : p ≠ .done) : s.polling = true :=
  (polling_iff s).2 ⟨hb, ho, hk, hph ▸ hd⟩

section Rows

variable {s : State} {b : Byte} (hp : s.polling = true)
include hp

theorem exec_awaitSync_sync (hph : s.parser.phase = .awaitSync) (hb : b = 0x55) :
    exec (.rxByteAwaitSyncSync b) s = .next (s.record (.rx (.byte b))).syncMatched :=
  onPoll_of_guard (i := .rxByteAwaitSyncSync b) hp (beq_iff_eq.2 hb) (beq_iff_eq.2 hph)

theorem exec_awaitSync_other (hph : s.parser.phase = .awaitSync) (hb : b ≠ 0x55) :
    exec (.rxByteAwaitSyncOther b) s = .next (s.record (.rx (.byte b))) :=
  onPoll_of_guard (i := .rxByteAwaitSyncOther b) hp (bne_iff_ne.2 hb) (beq_iff_eq.2 hph)

theorem exec_awaitId_match (hph : s.parser.phase = .awaitId) (hb : b = s.ops.id) :
    exec (.rxByteAwaitIdMatch b) s = .next ((s.record (.rx (.byte b))).setPhase .readData) :=
  onPoll_of_guard (i := .rxByteAwaitIdMatch b) hp rfl (by simp [Instr.guard, State.view, hph, hb])

theorem exec_awaitId_mismatch (hph : s.parser.phase = .awaitId) (hb : b ≠ s.ops.id) :
    exec (.rxByteAwaitIdMismatch b) s = .next ((s.record (.rx (.byte b))).setPhase .awaitSync) :=
  onPoll_of_guard (i := .rxByteAwaitIdMismatch b) hp rfl (by simp [Instr.guard, State.view, hph, hb])

theorem exec_readData_more (hph : s.parser.phase = .readData) (hc : s.parser.count.toNat + 1 < s.ops.len.toNat) :
    exec (.rxByteReadDataMore b) s = .next ((s.record (.rx (.byte b))).copyByte b) :=
  onPoll_of_guard (i := .rxByteReadDataMore b) hp rfl (by simp [Instr.guard, State.view, hph, hc])

theorem exec_readData_last (hph : s.parser.phase = .readData) (hc : s.parser.count.toNat + 1 = s.ops.len.toNat) :
    exec (.rxByteReadDataLast b) s = .next (((s.record (.rx (.byte b))).copyByte b).setPhase .awaitChecksum) :=
  onPoll_of_guard (i := .rxByteReadDataLast b) (f := fun t => (t.copyByte b).setPhase .awaitChecksum) hp rfl
    (by simp [Instr.guard, State.view, hph, hc])

end Rows

/-- Settles O37: the two rows of AwaitSync, with syncMatched and the record of the answer written out. -/
theorem awaitSyncOnByte : Obligations.AwaitSyncOnByte := by
  intro s b hb ho hk hph
  have hp := polling_of_phase hb ho hk hph (by decide)
  exact ⟨exec_awaitSync_sync hp hph, exec_awaitSync_other hp hph⟩

/-- Settles O38: the two rows of AwaitId differ in the phase they set and in nothing else. -/
theorem awaitIdOnByte : Obligations.AwaitIdOnByte := by
  intro s b hb ho hk hph
  have hp := polling_of_phase hb ho hk hph (by decide)
  exact ⟨exec_awaitId_match hp hph, exec_awaitId_mismatch hp hph⟩

/-! ### Where a data byte goes (R206, R207) -/

/-- A data byte lands in BUF[COUNT] and nowhere else. -/
theorem copyByte_buf_get {s : State} (h : s.parser.count.toNat < 8) (b : Byte) :
    (s.copyByte b).buf[s.parser.count.toNat]? = some b ∧
    ∀ k : Fin 8, k.val ≠ s.parser.count.toNat → (s.copyByte b).buf[k] = s.buf[k] := by
  rw [State.copyByte_buf]
  exact ⟨Vector.getElem?_setIfInBounds_self_of_lt h, fun k hk => Vector.getElem_setIfInBounds_ne k.isLt hk.symm⟩

/-- The count after the OP_LEN-th byte is OP_LEN: the increment does not wrap, since OP_LEN is itself 4 bits wide. -/
theorem count_succ_eq_len {c n : BitVec 4} (h : c.toNat + 1 = n.toNat) : c + 1 = n := by
  bv_omega

/-- Settles O39: both rows of ReadData store by copyByte; the last one leaves COUNT at OP_LEN. -/
theorem readDataOnByte : Obligations.ReadDataOnByte := by
  intro s b hb ho hk hph hlen
  have hp := polling_of_phase hb ho hk hph (by decide)
  refine ⟨fun hc => ⟨(s.copyByte b).buf, exec_readData_more hp hph hc, copyByte_buf_get (by omega) b⟩,
    fun hc => ⟨(s.copyByte b).buf, ?_, copyByte_buf_get (by omega) b⟩⟩
  rw [← count_succ_eq_len hc]
  exact exec_readData_last hp hph hc

end Sys2Proof.Machine
end

section
/-! PROOFS. READ_FRAME (44_read_frame.md R241): the two halts of its precheck, in the order of its tests. -/

namespace Sys2Proof.Machine

section Precheck

variable {s : State}

theorem precheckReadFrame_of_length (h : s.ops.len.toNat = 0 ∨ 8 < s.ops.len.toNat) :
    precheckReadFrame s = .dataLengthOutOfRange := by
  simp [precheckReadFrame, lengthLegal_false h]

/-- The durations are tested only once the length is legal (R241). -/
theorem precheckReadFrame_of_durations (h1 : 1 ≤ s.ops.len.toNat) (h8 : s.ops.len.toNat ≤ 8)
    (hd : s.active.ifsNs = none ∨ s.active.rtoNs = none) : precheckReadFrame s = .durationOverflow := by
  simp [precheckReadFrame, (lengthLegal_iff s.ops).2 ⟨h1, h8⟩, hd]

/-- A test that fails stops the command right after its acceptance (R241): TXI is not set and no delay begins. -/
theorem exec_readFrame_of_precheck {c : FatalCause} (hi : s.ctl.eng = .idle) (hc : precheckReadFrame s = c)
    (hn : c ≠ .none) : exec .readFrame s = .next ((s.accept .readFrame).raiseFatal c) := by
  simp only [exec, execReadFrame, onIdle_of_idle hi, hc]

end Precheck

/-- Settles O35: either test that fails halts the accepted command with its own cause, and raiseFatal after accept is the
state written out. -/
theorem readFramePrecheckHalts : Obligations.ReadFramePrecheckHalts := by
  intro s hi
  exact ⟨fun h => exec_readFrame_of_precheck hi (precheckReadFrame_of_length h) (by decide),
    fun h1 h8 hd => exec_readFrame_of_precheck hi (precheckReadFrame_of_durations h1 h8 hd) (by decide)⟩

end Sys2Proof.Machine
end

section
/-! PROOFS. Encoding (30_encoding.md sections 2 and 4; 43_resync_parser.md section 4): the receive decoder is total under its
guards, what it answers is the row of the answer, and decoding is the inverse of encoding. -/

namespace Sys2Proof

/-! ### The receive decoder -/

section Rx

variable {v : ParserView} {b : Byte} {i : Instr}

/-- Outside Done the code alone chooses between the four kinds of answer (R112). -/
theorem decodeRx_of_kind_zero (hp : v.phase ≠ .done) (d e : Byte) :
    decodeRx v { kind := 0, data := d, err := e } = .ok .rxWouldBlock := by
  simp [decodeRx, hp]

theorem decodeRx_of_kind_one (hp : v.phase ≠ .done) (d e : Byte) :
    decodeRx v { kind := 1, data := d, err := e } = decodeRxByte v d := by
  simp [decodeRx, hp]

theorem decodeRx_of_kind_two (hp : v.phase ≠ .done) (d e : Byte) :
    decodeRx v { kind := 2, data := d, err := e } = .ok (.rxError e) := by
  simp [decodeRx, hp]

theorem decodeRx_of_kind_three (hp : v.phase ≠ .done) (d e : Byte) :
    decodeRx v { kind := 3, data := d, err := e } = .ok (.rxReserved3 e) := by
  simp [decodeRx, hp]

/-- The row that a byte is read as carries the byte and its guard holds (R202 to R208). -/
theorem decodeRxByte_sound (h : decodeRxByte v b = .ok i) :
    i.wellFormed = true ∧ i.guard v = true ∧ encode i = encodeRxByte b := by
  cases hp : v.phase <;> simp only [decodeRxByte, hp] at h
  case awaitSync => split at h <;> cases h <;> simp_all [Instr.wellFormed, Instr.guard, encode]
  case awaitId => split at h <;> cases h <;> simp_all [Instr.wellFormed, Instr.guard, encode]
  case readData =>
    split at h
    · cases h; simp_all [Instr.wellFormed, Instr.guard, encode]
    · split at h <;> cases h
      simp_all [Instr.wellFormed, Instr.guard, encode]
  case awaitChecksum => cases h; simp [Instr.wellFormed, Instr.guard, encode, hp]
  case done => cases h

/-- Outside Done every byte is some row, as long as COUNT is below OP_LEN in ReadData (R48 (d)). -/
theorem decodeRxByte_total (b : Byte) (hp : v.phase ≠ .done)
    (hc : v.phase = .readData → v.count.toNat < v.opLen.toNat) : ∃ i, decodeRxByte v b = .ok i := by
  cases hv : v.phase <;> simp only [decodeRxByte, hv]
  case awaitSync => split <;> exact ⟨_, rfl⟩
  case awaitId => split <;> exact ⟨_, rfl⟩
  case readData =>
    have := hc hv
    split
    · exact ⟨_, rfl⟩
    · rw [if_pos (by omega)]; exact ⟨_, rfl⟩
  case awaitChecksum => exact ⟨_, rfl⟩
  case done => exact absurd hv hp

/-- A row under its guard is the one that the decoder gives its byte: what decodeRxByte tests is the guard. -/
theorem decodeRxByte_of_guard (hw : i.wellFormed = true) (hg : i.guard v = true) (he : encode i = encodeRxByte b) :
    decodeRxByte v b = .ok i := by
  cases i <;> simp_all [encode, encodeRxByte, encodeCmd, Instr.wellFormed, Instr.guard, decodeRxByte]

end Rx

/-! ### Decode and encode -/

/-- Settles O1: the rows of RX_BYTE by decodeRxByte_of_guard, every other row by its own code. -/
theorem decodeOfEncodeIsTheInstruction : Obligations.DecodeOfEncodeIsTheInstruction := by
  intro v i hw hg
  have hbyte : ∀ b, v.phase ≠ .done → encode i = encodeRxByte b → decode v (encode i) = .ok i := fun b hp he => by
    rw [he]
    exact (decodeRx_of_kind_one hp b 0).trans (decodeRxByte_of_guard hw hg he)
  have hphase : ∀ p, v.phase = p → p ≠ .done → v.phase ≠ .done := fun p h hp => h ▸ hp
  cases i with
  | rxByteAwaitSyncSync b => exact hbyte b (hphase .awaitSync (by simpa [Instr.guard] using hg) (by decide)) rfl
  | rxByteAwaitSyncOther b => exact hbyte b (hphase .awaitSync (by simpa [Instr.guard] using hg) (by decide)) rfl
  | rxByteAwaitIdMatch b => exact hbyte b (hphase .awaitId (by simp_all [Instr.guard]) (by decide)) rfl
  | rxByteAwaitIdMismatch b => exact hbyte b (hphase .awaitId (by simp_all [Instr.guard]) (by decide)) rfl
  | rxByteReadDataMore b => exact hbyte b (hphase .readData (by simp_all [Instr.guard]) (by decide)) rfl
  | rxByteReadDataLast b => exact hbyte b (hphase .readData (by simp_all [Instr.guard]) (by decide)) rfl
  | rxByteAwaitChecksum b => exact hbyte b (hphase .awaitChecksum (by simpa [Instr.guard] using hg) (by decide)) rfl
  | rxWouldBlock => exact decodeRx_of_kind_zero (by simpa [Instr.guard] using hg) 0 0
  | rxError e => exact decodeRx_of_kind_two (by simpa [Instr.guard] using hg) 0 e
  | rxReserved3 e => exact decodeRx_of_kind_three (by simpa [Instr.guard] using hg) 0 e
  | _ => rfl

/-- The answer word with the signals that its code ignores written as 0 (R112). -/
def RxWord.canonical (w : RxWord) : RxWord :=
  if w.kind = 1 then { kind := 1, data := w.data, err := 0 }
  else if w.kind = 0 then { kind := 0, data := 0, err := 0 }
  else { kind := w.kind, data := 0, err := w.err }

/-- The row that an answer is read as: its guard holds, and its encoding is the answer without its ignored signals. -/
theorem decodeRx_sound {v : ParserView} {w : RxWord} {i : Instr} (h : decodeRx v w = .ok i) :
    v.phase ≠ .done ∧ i.wellFormed = true ∧ i.guard v = true ∧ encode i = .rx w.canonical := by
  obtain ⟨k, d, e⟩ := w
  by_cases hp : v.phase = .done
  · simp [decodeRx, hp] at h
  refine ⟨hp, ?_⟩
  rcases Machine.speed_cases k with rfl | rfl | rfl | rfl
  · rw [decodeRx_of_kind_zero hp] at h
    cases h
    exact ⟨rfl, by simpa [Instr.guard] using hp, rfl⟩
  · rw [decodeRx_of_kind_one hp] at h
    exact decodeRxByte_sound h
  · rw [decodeRx_of_kind_two hp] at h
    cases h
    exact ⟨rfl, by simpa [Instr.guard] using hp, rfl⟩
  · rw [decodeRx_of_kind_three hp] at h
    cases h
    exact ⟨rfl, by simpa [Instr.guard] using hp, rfl⟩

/-- No answer is rejected outside Done while COUNT is below OP_LEN in ReadData (R48 (d), R211). -/
theorem decodeRx_total {v : ParserView} (w : RxWord) (hp : v.phase ≠ .done)
    (hc : v.phase = .readData → v.count.toNat < v.opLen.toNat) : ∃ i, decodeRx v w = .ok i := by
  obtain ⟨k, d, e⟩ := w
  rcases Machine.speed_cases k with rfl | rfl | rfl | rfl
  · exact ⟨_, decodeRx_of_kind_zero hp d e⟩
  · rw [decodeRx_of_kind_one hp]
    exact decodeRxByte_total d hp hc
  · exact ⟨_, decodeRx_of_kind_two hp d e⟩
  · exact ⟨_, decodeRx_of_kind_three hp d e⟩

/-- Settles O4: the row exists by decodeRx_total, is as claimed by decodeRx_sound, and is the only one since two rows with
one encoding are both what that encoding decodes to (O1). -/
theorem exactlyOneRowPerAnswer : Obligations.ExactlyOneRowPerAnswer := by
  intro v w hp hc
  obtain ⟨i, hi⟩ := decodeRx_total w hp hc
  obtain ⟨-, hw, hg, he⟩ := decodeRx_sound hi
  refine ⟨i, hi, hw, hg, fun h => ?_, fun h1 h0 => ?_, fun h => ?_, fun j hjw hjg hj => ?_⟩
  · simp [he, RxWord.canonical, h]
  · rw [he, RxWord.canonical, if_neg h1, if_neg h0]
  · simp [he, RxWord.canonical, h]
  · have h := decodeOfEncodeIsTheInstruction v j hjw hjg
    rw [hj, decodeOfEncodeIsTheInstruction v i hw hg] at h
    exact (Except.ok.inj h).symm

/-! ### Command words -/

/-- A CMD word is read as the word of its low three bits (R104). -/
theorem decodeCmd_low_bits (w : Word) : decodeCmd w = decodeCmd ((w.extractLsb' 0 3).setWidth 32) := by
  have h : ((w.extractLsb' 0 3).setWidth 32).toNat % 8 = w.toNat % 8 := by
    simp only [BitVec.toNat_setWidth, BitVec.extractLsb'_toNat, Nat.shiftRight_zero]
    omega
  rw [decodeCmd, decodeCmd, h]

/-- Settles O2: each of the eight values of the low bits by decodeCmd_low_bits. -/
theorem commandWordLowBitsDecide : Obligations.CommandWordLowBitsDecide := by
  intro w
  rw [decodeCmd_low_bits w]
  generalize w.extractLsb' 0 3 = k
  refine ⟨?_, ?_, ?_, ?_, ?_, ?_, ?_, ?_⟩ <;> rintro rfl <;> rfl

/-- Settles O3: each decoder evaluated on its words. -/
theorem sampleWordsDecode : Obligations.SampleWordsDecode := by
  unfold Obligations.SampleWordsDecode
  decide

end Sys2Proof
end

section
/-! PROOFS. Where each action stands in the lists (10_state.md R42), and what each instruction can do: the facts that the
statements about every step share. -/

namespace Sys2Proof.Machine

/-! ### The place of an action: its command and its STEP -/

/-- An action under way is the one that its command's list has at STEP. -/
theorem action_list {s : State} (h : s.action ≠ .none) :
    (s.ctl.curOp = .sendBreak ∧ s.action = sendBreakAction s s.ctl.stepNo.toNat) ∨
    (s.ctl.curOp = .sendWakeup ∧ s.action = sendWakeupAction s s.ctl.stepNo.toNat) ∨
    (s.ctl.curOp = .sendFrame ∧ s.action = sendFrameAction s s.ctl.stepNo.toNat) ∨
    (s.ctl.curOp = .readFrame ∧ s.action = readFrameAction s s.ctl.stepNo.toNat) := by
  have hb := busy_of_action h
  cases ho : s.ctl.curOp
  case none => simp [State.action, hb, ho] at h
  case init => simp [State.action, hb, ho] at h
  case sendBreak => exact .inl ⟨rfl, action_sendBreak hb ho⟩
  case sendWakeup => exact .inr (.inl ⟨rfl, action_sendWakeup hb ho⟩)
  case sendFrame => exact .inr (.inr (.inl ⟨rfl, action_sendFrame hb ho⟩))
  case readFrame => exact .inr (.inr (.inr ⟨rfl, action_readFrame hb ho⟩))

theorem sendBreakAction_cases (s : State) (k : Nat) :
    sendBreakAction s k = .none ∨ (∃ l, sendBreakAction s k = .line l) ∨ (∃ d, sendBreakAction s k = .delay d) ∨
      (k = 5 ∧ sendBreakAction s k = .finish) := by
  unfold sendBreakAction breakAction pulseAction
  split <;> simp

theorem sendWakeupAction_cases (s : State) (k : Nat) :
    sendWakeupAction s k = .none ∨ (∃ l, sendWakeupAction s k = .line l) ∨ (∃ d, sendWakeupAction s k = .delay d) ∨
      (k = 5 ∧ sendWakeupAction s k = .finish) := by
  unfold sendWakeupAction pulseAction
  split <;> simp

theorem sendFrameAction_cases (s : State) (k : Nat) :
    sendFrameAction s k = .none ∨ (k = 1 ∧ sendFrameAction s k = .build) ∨ (∃ l, sendFrameAction s k = .line l) ∨
      (∃ d, sendFrameAction s k = .delay d) ∨
      (k = 6 ∧ sendFrameAction s k = .tx s.frameAtTxi (decide (s.ctl.txi.toNat + 1 < s.frameLen.toNat))) ∨
      (k = 7 ∧ sendFrameAction s k = .flush) ∨ (k = 9 ∧ sendFrameAction s k = .finish) := by
  unfold sendFrameAction breakAction pulseAction
  split <;> simp

theorem readFrameAction_cases (s : State) (k : Nat) :
    readFrameAction s k = .none ∨ (∃ l, readFrameAction s k = .line l) ∨ (∃ d, readFrameAction s k = .delay d) ∨
      (k = 6 ∧ readFrameAction s k = .tx syncByte false) ∨ (k = 7 ∧ readFrameAction s k = .tx s.ops.id false) ∨
      (k = 9 ∧ readFrameAction s k = .parse) ∨ (k = 11 ∧ readFrameAction s k = .select) := by
  unfold readFrameAction breakAction pulseAction
  split <;> simp

/-- Where each kind of action stands (R162, R166, R181, R231); Line and Delay stand in all four lists. -/
theorem action_place (s : State) :
    s.action = .none ∨ (∃ l, s.action = .line l) ∨ (∃ d, s.action = .delay d) ∨
    (s.action = .build ∧ s.ctl.curOp = .sendFrame ∧ s.ctl.stepNo = 1) ∨
    (s.action = .tx s.frameAtTxi (decide (s.ctl.txi.toNat + 1 < s.frameLen.toNat)) ∧ s.ctl.curOp = .sendFrame ∧
      s.ctl.stepNo = 6) ∨
    (s.action = .tx syncByte false ∧ s.ctl.curOp = .readFrame ∧ s.ctl.stepNo = 6) ∨
    (s.action = .tx s.ops.id false ∧ s.ctl.curOp = .readFrame ∧ s.ctl.stepNo = 7) ∨
    (s.action = .flush ∧ s.ctl.curOp = .sendFrame ∧ s.ctl.stepNo = 7) ∨
    (s.action = .parse ∧ s.ctl.curOp = .readFrame ∧ s.ctl.stepNo = 9) ∨
    (s.action = .finish ∧ s.ctl.curOp ≠ .sendFrame ∧ s.ctl.stepNo = 5) ∨
    (s.action = .finish ∧ s.ctl.curOp = .sendFrame ∧ s.ctl.stepNo = 9) ∨
    (s.action = .select ∧ s.ctl.curOp = .readFrame ∧ s.ctl.stepNo = 11) := by
  have hstep : ∀ n : Nat, n < 32 → s.ctl.stepNo.toNat = n → s.ctl.stepNo = BitVec.ofNat 5 n := fun n hn hk =>
    BitVec.eq_of_toNat_eq (by rw [hk, BitVec.toNat_ofNat, Nat.mod_eq_of_lt hn])
  by_cases h : s.action = .none
  · exact .inl h
  rcases action_list h with ⟨ho, ha⟩ | ⟨ho, ha⟩ | ⟨ho, ha⟩ | ⟨ho, ha⟩
  · have hc := sendBreakAction_cases s s.ctl.stepNo.toNat
    rw [← ha] at hc
    rcases hc with e | e | e | ⟨hk, e⟩
    · exact absurd e h
    · exact .inr (.inl e)
    · exact .inr (.inr (.inl e))
    · simp [e, ho, hstep 5 (by decide) hk]
  · have hc := sendWakeupAction_cases s s.ctl.stepNo.toNat
    rw [← ha] at hc
    rcases hc with e | e | e | ⟨hk, e⟩
    · exact absurd e h
    · exact .inr (.inl e)
    · exact .inr (.inr (.inl e))
    · simp [e, ho, hstep 5 (by decide) hk]
  · have hc := sendFrameAction_cases s s.ctl.stepNo.toNat
    rw [← ha] at hc
    rcases hc with e | ⟨hk, e⟩ | e | e | ⟨hk, e⟩ | ⟨hk, e⟩ | ⟨hk, e⟩
    · exact absurd e h
    · simp [e, ho, hstep 1 (by decide) hk]
    · exact .inr (.inl e)
    · exact .inr (.inr (.inl e))
    · simp [e, ho, hstep 6 (by decide) hk]
    · simp [e, ho, hstep 7 (by decide) hk]
    · simp [e, ho, hstep 9 (by decide) hk]
  · have hc := readFrameAction_cases s s.ctl.stepNo.toNat
    rw [← ha] at hc
    rcases hc with e | e | e | ⟨hk, e⟩ | ⟨hk, e⟩ | ⟨hk, e⟩ | ⟨hk, e⟩
    · exact absurd e h
    · exact .inr (.inl e)
    · exact .inr (.inr (.inl e))
    · simp [e, ho, hstep 6 (by decide) hk]
    · simp [e, ho, hstep 7 (by decide) hk]
    · simp [e, ho, hstep 9 (by decide) hk]
    · simp [e, ho, hstep 11 (by decide) hk]

/-- A TxByte is SEND_FRAME's burst or one of READ_FRAME's two header bytes (R181, R231). -/
theorem place_of_tx {s : State} {b : Byte} {m : Bool} (h : s.action = .tx b m) :
    (s.ctl.curOp = .sendFrame ∧ s.ctl.stepNo = 6 ∧ b = s.frameAtTxi ∧ m = decide (s.ctl.txi.toNat + 1 < s.frameLen.toNat)) ∨
    (s.ctl.curOp = .readFrame ∧ s.ctl.stepNo = 6 ∧ b = syncByte ∧ m = false) ∨
    (s.ctl.curOp = .readFrame ∧ s.ctl.stepNo = 7 ∧ b = s.ops.id ∧ m = false) := by
  have hp := action_place s
  simp only [h, reduceCtorEq, exists_false, Action.tx.injEq, false_and, false_or, or_false] at hp
  rcases hp with ⟨⟨hb, hm⟩, ho, hk⟩ | ⟨⟨hb, hm⟩, ho, hk⟩ | ⟨⟨hb, hm⟩, ho, hk⟩
  · exact .inl ⟨ho, hk, hb, hm⟩
  · exact .inr (.inl ⟨ho, hk, hb, hm⟩)
  · exact .inr (.inr ⟨ho, hk, hb, hm⟩)

/-- The Flush is STEP 7 of SEND_FRAME (R181). -/
theorem place_of_flush {s : State} (h : s.action = .flush) : s.ctl.curOp = .sendFrame ∧ s.ctl.stepNo = 7 := by
  have hp := action_place s
  simpa [h] using hp

/-- Frame construction is STEP 1 of SEND_FRAME (R181). -/
theorem place_of_build {s : State} (h : s.action = .build) : s.ctl.curOp = .sendFrame ∧ s.ctl.stepNo = 1 := by
  have hp := action_place s
  simpa [h] using hp

/-- At a STEP where a command can be found under way it has an action, and not its ending (R42). -/
theorem action_of_stepLegal {s : State} (hb : s.ctl.eng = .busy) (hk : stepLegal s.ctl.curOp s.ctl.stepNo.toNat = true) :
    s.action ≠ .none ∧ s.action ≠ .finish ∧ s.action ≠ .select := by
  cases ho : s.ctl.curOp <;> simp only [stepLegal, ho, decide_eq_true_eq] at hk
  case none => cases hk
  case init => cases hk
  case sendBreak =>
    rw [action_sendBreak hb ho]
    generalize s.ctl.stepNo.toNat = k at hk
    obtain ⟨h1, h2⟩ := hk
    interval_cases k <;> simp [sendBreakAction, breakAction, pulseAction]
  case sendWakeup =>
    rw [action_sendWakeup hb ho]
    generalize s.ctl.stepNo.toNat = k at hk
    obtain ⟨h1, h2⟩ := hk
    interval_cases k <;> simp [sendWakeupAction, pulseAction]
  case sendFrame =>
    rw [action_sendFrame hb ho]
    generalize s.ctl.stepNo.toNat = k at hk
    obtain ⟨h1, h2⟩ := hk
    interval_cases k <;> simp [sendFrameAction, breakAction, pulseAction]
  case readFrame =>
    rw [action_readFrame hb ho]
    generalize s.ctl.stepNo.toNat = k at hk
    obtain ⟨h1, h2⟩ := hk
    interval_cases k <;> simp [readFrameAction, breakAction, pulseAction]

/-! ### What each instruction can do: one inversion lemma for each port -/

theorem decodeCmd_cases (w : Word) :
    decodeCmd w = .cmdReserved0 ∨ decodeCmd w = .init ∨ decodeCmd w = .sendBreak ∨ decodeCmd w = .sendWakeup ∨
    decodeCmd w = .sendFrame ∨ decodeCmd w = .readFrame ∨ decodeCmd w = .cmdReserved6 ∨ decodeCmd w = .cmdReserved7 := by
  unfold decodeCmd
  split <;> simp

section Idle

variable {s : State} (hi : s.ctl.eng = .idle)
include hi

theorem exec_init_of_legal (h : s.staging.hasReservedSelector = false) :
    exec .init s = .next ((s.accept .init).installProfile.complete .ok 0 0 0) := by
  simp [exec, execInit, onIdle_of_idle hi, h]

theorem exec_init_of_reserved (h : s.staging.hasReservedSelector = true) :
    exec .init s = .next ((s.accept .init).complete .refused 0 0 0) := by
  simp [exec, execInit, onIdle_of_idle hi, h]

theorem exec_sendBreak_of_idle : exec .sendBreak s = .next ((s.accept .sendBreak).enterStep 1) :=
  onIdle_of_idle (f := fun s => (s.accept .sendBreak).enterStep 1) hi

/-- A command whose precheck passes begins its first action. -/
theorem exec_sendWakeup_of_checked (h : precheckSendWakeup s = .none) :
    exec .sendWakeup s = .next ((s.accept .sendWakeup).enterStep 1) := by
  simp only [exec, execSendWakeup, onIdle_of_idle hi, h]

theorem exec_sendFrame_of_checked (h : precheckSendFrame s = .none) :
    exec .sendFrame s = .next ((s.accept .sendFrame).enterStep 1) := by
  simp only [exec, execSendFrame, onIdle_of_idle hi, h]

theorem exec_readFrame_of_checked (h : precheckReadFrame s = .none) :
    exec .readFrame s = .next (((s.accept .readFrame).setTxi 0).enterStep 1) := by
  simp only [exec, execReadFrame, onIdle_of_idle hi, h]

/-- A wakeup that fails its test halts right after its acceptance (R166). -/
theorem exec_sendWakeup_of_precheck {c : FatalCause} (hc : precheckSendWakeup s = c) (hn : c ≠ .none) :
    exec .sendWakeup s = .next ((s.accept .sendWakeup).raiseFatal c) := by
  simp only [exec, execSendWakeup, onIdle_of_idle hi, hc]

end Idle

/-- All that a CMD word can do in IDLE (R105, R121): a refusal, INIT's ending, a halt, or the first action of a command. -/
inductive CommandEffect (s : State) (w : Word) : State → Prop where
  | refused : CommandEffect s w s.refuse
  | initRefused : CommandEffect s w ((s.accept .init).complete .refused 0 0 0)
  | installed (hw : decodeCmd w = .init) (hr : s.staging.hasReservedSelector = false) :
      CommandEffect s w ((s.accept .init).installProfile.complete .ok 0 0 0)
  | halted (op : CurOp) (c : FatalCause) (hc : c ≠ .none) : CommandEffect s w ((s.accept op).raiseFatal c)
  | sendBreak : CommandEffect s w ((s.accept .sendBreak).enterStep 1)
  | sendWakeup (hc : precheckSendWakeup s = .none) : CommandEffect s w ((s.accept .sendWakeup).enterStep 1)
  | sendFrame (hw : decodeCmd w = .sendFrame) (hc : precheckSendFrame s = .none) :
      CommandEffect s w ((s.accept .sendFrame).enterStep 1)
  | readFrame (hc : precheckReadFrame s = .none) :
      CommandEffect s w (((s.accept .readFrame).setTxi 0).enterStep 1)

/-- A CMD word always answers a next state: the same one outside IDLE, in IDLE its effect. -/
theorem exec_cmd_cases (s : State) (w : Word) :
    (s.ctl.eng ≠ .idle ∧ exec (decodeCmd w) s = .next s) ∨
    (s.ctl.eng = .idle ∧ ∃ t, exec (decodeCmd w) s = .next t ∧ CommandEffect s w t) := by
  by_cases hi : s.ctl.eng = .idle
  swap
  · exact .inl ⟨hi, exec_decodeCmd_of_not_idle hi w⟩
  refine .inr ⟨hi, ?_⟩
  have hrefuse : onIdle State.refuse s = .next s.refuse := onIdle_of_idle hi
  rcases decodeCmd_cases w with hw | hw | hw | hw | hw | hw | hw | hw <;> rw [hw]
  · exact ⟨_, hrefuse, .refused⟩
  · cases hr : s.staging.hasReservedSelector
    · exact ⟨_, exec_init_of_legal hi hr, .installed hw hr⟩
    · exact ⟨_, exec_init_of_reserved hi hr, .initRefused⟩
  · exact ⟨_, exec_sendBreak_of_idle hi, .sendBreak⟩
  · by_cases hc : precheckSendWakeup s = .none
    · exact ⟨_, exec_sendWakeup_of_checked hi hc, .sendWakeup hc⟩
    · exact ⟨_, exec_sendWakeup_of_precheck hi rfl hc, .halted _ _ hc⟩
  · by_cases hc : precheckSendFrame s = .none
    · exact ⟨_, exec_sendFrame_of_checked hi hc, .sendFrame hw hc⟩
    · exact ⟨_, exec_sendFrame_of_precheck hi rfl hc, .halted _ _ hc⟩
  · by_cases hc : precheckReadFrame s = .none
    · exact ⟨_, exec_readFrame_of_checked hi hc, .readFrame hc⟩
    · exact ⟨_, exec_readFrame_of_precheck hi rfl hc, .halted _ _ hc⟩
  · exact ⟨_, hrefuse, .refused⟩
  · exact ⟨_, hrefuse, .refused⟩

/-- An answer to the pending TxByte is an Ok or an Err (R111). -/
theorem exec_decodeTx {s : State} {b : Byte} {m : Bool} (h : s.action = .tx b m) (w : TxWord) :
    exec (decodeTx w) s = .next (if w.ans = 0 then s.txTaken b m else s.txFailed w.err b) := by
  unfold decodeTx
  split
  · exact onTx_of_action h
  · exact onTx_of_action h

theorem exec_flushOk_of_action {s : State} (h : s.action = .flush) :
    exec .flushOk s = .next (s.record (.flush .ok)).nextStep :=
  onFlush_of_action (f := fun s => (s.record (.flush .ok)).nextStep) h

theorem exec_flushFail_of_action {s : State} (h : s.action = .flush) :
    exec .flushFail s = .next ((s.record (.flush .fail)).complete .writeNotAcknowledged 0 0 0) :=
  onFlush_of_action (f := fun s => (s.record (.flush .fail)).complete .writeNotAcknowledged 0 0 0) h

/-- An answer to the pending Flush is an Ok or a Fail (R113). -/
theorem exec_decodeFlush {s : State} (h : s.action = .flush) (a : BitVec 1) :
    exec (decodeFlush a) s = .next (if a = 0 then (s.record (.flush .ok)).nextStep
      else (s.record (.flush .fail)).complete .writeNotAcknowledged 0 0 0) := by
  unfold decodeFlush
  split
  · exact exec_flushOk_of_action h
  · exact exec_flushFail_of_action h

section Stops

variable {s : State} (hp : s.polling = true)
include hp

/-- In any phase but Done WouldBlock and a read error stop the parse (R209, R210). -/
theorem exec_rxWouldBlock_of_polling : exec .rxWouldBlock s = .next (s.record (.rx .wouldBlock)).nextStep :=
  onPoll_of_guard hp rfl (bne_iff_ne.2 ((polling_iff s).1 hp).2.2.2)

theorem exec_rxError_of_polling (e : Byte) :
    exec (.rxError e) s = .next ((s.record (.rx (.err e))).readError e).nextStep :=
  onPoll_of_guard (i := .rxError e) (f := fun s => (s.readError e).nextStep) hp rfl
    (bne_iff_ne.2 ((polling_iff s).1 hp).2.2.2)

theorem exec_rxReserved3_of_polling (e : Byte) :
    exec (.rxReserved3 e) s = .next ((s.record (.rx (.err e))).readError e).nextStep :=
  onPoll_of_guard (i := .rxReserved3 e) (f := fun s => (s.readError e).nextStep) hp rfl
    (bne_iff_ne.2 ((polling_iff s).1 hp).2.2.2)

/-- The checksum is the last byte of the parse (R208). -/
theorem exec_awaitChecksum (b : Byte) (hph : s.parser.phase = .awaitChecksum) :
    exec (.rxByteAwaitChecksum b) s = .next ((s.record (.rx (.byte b))).captureChk b).nextStep :=
  onPoll_of_guard (i := .rxByteAwaitChecksum b) (f := fun s => (s.captureChk b).nextStep) hp rfl (beq_iff_eq.2 hph)

end Stops

/-- All that an answer to the pending RxPoll can do (R202 to R210): u is the state with the answer in the trace. -/
inductive PollEffect (s u : State) : State → Prop where
  | stop : PollEffect s u u.nextStep
  | error (e : Byte) : PollEffect s u (u.readError e).nextStep
  | sync (hp : s.parser.phase = .awaitSync) : PollEffect s u u.syncMatched
  | other (hp : s.parser.phase = .awaitSync) : PollEffect s u u
  | idMatch (hp : s.parser.phase = .awaitId) : PollEffect s u (u.setPhase .readData)
  | idMismatch (hp : s.parser.phase = .awaitId) : PollEffect s u (u.setPhase .awaitSync)
  | more (b : Byte) (hp : s.parser.phase = .readData) (hc : s.parser.count.toNat + 1 < s.ops.len.toNat) :
      PollEffect s u (u.copyByte b)
  | last (b : Byte) (hp : s.parser.phase = .readData) (hc : s.parser.count.toNat + 1 = s.ops.len.toNat) :
      PollEffect s u ((u.copyByte b).setPhase .awaitChecksum)
  | checksum (b : Byte) (hp : s.parser.phase = .awaitChecksum) : PollEffect s u (u.captureChk b).nextStep

/-- A row whose guard holds answers a next state, which is one of the effects (R202 to R210). -/
theorem exec_rx_of_guard {s : State} {i : Instr} {w : RxWord} (hp : s.polling = true) (he : encode i = .rx w)
    (hw : i.wellFormed = true) (hg : i.guard s.view = true) :
    ∃ a t, exec i s = .next t ∧ PollEffect s (s.record (.rx a)) t := by
  cases i with
  | rxWouldBlock => exact ⟨_, _, exec_rxWouldBlock_of_polling hp, .stop⟩
  | rxByteAwaitSyncSync b =>
    have hph : s.parser.phase = .awaitSync := beq_iff_eq.1 hg
    exact ⟨_, _, exec_awaitSync_sync hp hph (beq_iff_eq.1 hw), .sync hph⟩
  | rxByteAwaitSyncOther b =>
    have hph : s.parser.phase = .awaitSync := beq_iff_eq.1 hg
    exact ⟨_, _, exec_awaitSync_other hp hph (bne_iff_ne.1 hw), .other hph⟩
  | rxByteAwaitIdMatch b =>
    obtain ⟨hph, hb⟩ := Bool.and_eq_true_iff.1 hg
    exact ⟨_, _, exec_awaitId_match hp (beq_iff_eq.1 hph) (beq_iff_eq.1 hb), .idMatch (beq_iff_eq.1 hph)⟩
  | rxByteAwaitIdMismatch b =>
    obtain ⟨hph, hb⟩ := Bool.and_eq_true_iff.1 hg
    exact ⟨_, _, exec_awaitId_mismatch hp (beq_iff_eq.1 hph) (bne_iff_ne.1 hb), .idMismatch (beq_iff_eq.1 hph)⟩
  | rxByteReadDataMore b =>
    obtain ⟨hph, hc⟩ := Bool.and_eq_true_iff.1 hg
    exact ⟨_, _, exec_readData_more hp (beq_iff_eq.1 hph) (of_decide_eq_true hc),
      .more b (beq_iff_eq.1 hph) (of_decide_eq_true hc)⟩
  | rxByteReadDataLast b =>
    obtain ⟨hph, hc⟩ := Bool.and_eq_true_iff.1 hg
    exact ⟨_, _, exec_readData_last hp (beq_iff_eq.1 hph) (of_decide_eq_true hc),
      .last b (beq_iff_eq.1 hph) (of_decide_eq_true hc)⟩
  | rxByteAwaitChecksum b =>
    have hph : s.parser.phase = .awaitChecksum := beq_iff_eq.1 hg
    exact ⟨_, _, exec_awaitChecksum hp b hph, .checksum b hph⟩
  | rxError e => exact ⟨_, _, exec_rxError_of_polling hp e, .error e⟩
  | rxReserved3 e => exact ⟨_, _, exec_rxReserved3_of_polling hp e, .error e⟩
  | _ => cases he

/-- The answer that the decoder reads runs. -/
theorem exec_decodeRx {s : State} {i : Instr} {w : RxWord} (hp : s.polling = true) (h : decodeRx s.view w = .ok i) :
    ∃ a t, exec i s = .next t ∧ PollEffect s (s.record (.rx a)) t := by
  obtain ⟨-, hw, hg, he⟩ := decodeRx_sound h
  exact exec_rx_of_guard hp he hw hg

/-! ### What a move of the engine can do -/

/-- The action under way waits or there is none, or it has ended, or it has been answered (R42, R107). -/
inductive MoveEffect (s : State) : State → Prop where
  | stay : MoveEffect s s
  | built (ha : s.action = .build) : MoveEffect s s.nextStep
  | driven (l : Level) (ha : s.action = .line l) : MoveEffect s s.nextStep
  | delayed (d : Option Nat) (ha : s.action = .delay d) : MoveEffect s s.serveDelay.nextStep
  | taken (b : Byte) (m : Bool) (l : List TxWord) (ha : s.action = .tx b m) : MoveEffect s ((s.setTxAns l).txTaken b m)
  | notTaken (e b : Byte) (m : Bool) (l : List TxWord) (ha : s.action = .tx b m) :
      MoveEffect s ((s.setTxAns l).txFailed e b)
  | flushed (l : List (BitVec 1)) (ha : s.action = .flush) :
      MoveEffect s ((s.setFlushAns l).record (.flush .ok)).nextStep
  | notFlushed (l : List (BitVec 1)) (ha : s.action = .flush) :
      MoveEffect s (((s.setFlushAns l).record (.flush .fail)).complete .writeNotAcknowledged 0 0 0)
  | polled (a : RxAnswer) (l : List RxWord) {t : State} (hp : s.polling = true)
      (ht : PollEffect s ((s.setRxAns l).record (.rx a)) t) : MoveEffect s t
  | parsed (ha : s.action = .parse) (hp : s.parser.phase = .done) : MoveEffect s s.nextStep
  | finished (ha : s.action = .finish) : MoveEffect s (s.complete .ok 0 0 0)
  | selected (ha : s.action = .select) : MoveEffect s s.selectResult

/-- The effect of an answer depends on the parser and OP_LEN alone, not on what is left in the transport. -/
theorem PollEffect.of_setRxAns {s u t : State} {l : List RxWord} (h : PollEffect (s.setRxAns l) u t) : PollEffect s u t := by
  cases h with
  | stop => exact .stop
  | error e => exact .error e
  | sync hp => exact .sync hp
  | other hp => exact .other hp
  | idMatch hp => exact .idMatch hp
  | idMismatch hp => exact .idMismatch hp
  | more b hp hc => exact .more b hp hc
  | last b hp hc => exact .last b hp hc
  | checksum b hp => exact .checksum b hp

theorem engineMove_effect {s t : State} (h : engineMove s = .next t) : MoveEffect s t := by
  rcases engineMove_cases h with rfl | ⟨ha | ⟨l, ha⟩, rfl⟩ | ⟨⟨d, ha⟩, rfl⟩ | ⟨b, m, w, rest, ha, -, he⟩ |
    ⟨a, rest, ha, -, he⟩ | ⟨w, rest, i, hp, -, hd, he⟩ | ⟨ha, hp, rfl⟩ | ⟨ha, rfl⟩ | ⟨ha, rfl⟩
  · exact .stay
  · exact .built ha
  · exact .driven l ha
  · exact .delayed d ha
  · rw [exec_decodeTx (s := s.setTxAns rest) ((action_of_env s _).trans ha)] at he
    obtain rfl := Host.Outcome.next.inj he
    split
    · exact .taken b m rest ha
    · exact .notTaken w.err b m rest ha
  · rw [exec_decodeFlush (s := s.setFlushAns rest) ((action_of_env s _).trans ha)] at he
    obtain rfl := Host.Outcome.next.inj he
    split
    · exact .flushed rest ha
    · exact .notFlushed rest ha
  · have hp' : (s.setRxAns rest).polling = true := (polling_iff _).2 ((polling_iff s).1 hp)
    obtain ⟨a, u, hu, hf⟩ := exec_decodeRx hp' hd
    obtain rfl := Host.Outcome.next.inj (hu.symm.trans he)
    exact .polled a rest hp hf.of_setRxAns
  · exact .parsed ha hp
  · exact .finished ha
  · exact .selected ha

/-! ### What a step can do -/

/-- A turn of the world outside is used up or stays, a read may put its word on reg_rdata; beside that the engine moves, a
command word is carried out in IDLE, a register is written in IDLE, time passes, or the engine is reset. -/
inductive StepEffect (s : State) : State → Prop where
  | moved (ts : List Turn) (d : Word) {t : State} (ht : MoveEffect ((s.setTurns ts).setRdata d) t) : StepEffect s t
  | command (w : Word) (rest : List Turn) {t : State} (hs : s.env.turns = .write cmdReg w :: rest)
      (hi : s.ctl.eng = .idle) (ht : CommandEffect (s.setTurns rest) w t) : StepEffect s t
  | stored (a : BitVec 6) (d : Word) (rest : List Turn) (hs : s.env.turns = .write a d :: rest) (hi : s.ctl.eng = .idle) :
      StepEffect s ((s.setTurns rest).storeReg a d)
  | passed (ts : List Turn) (d : Word) (k : Nat) : StepEffect s (((s.setTurns ts).setRdata d).passTime k)
  | elapsed (ts : List Turn) (k : Nat) (hk : k ≤ s.periodsLeft) : StepEffect s ((s.elapse k).setTurns ts)
  | reset (rest : List Turn) (hs : s.env.turns = .reset :: rest) : StepEffect s (s.resetEngine.setTurns rest)

theorem step_effect {s t : State} (h : step s = .next t) : StepEffect s t := by
  rcases step_cases h with ⟨-, -, hm⟩ | ⟨w, rest, hs, he⟩ | ⟨a, d, rest, hs, -, rfl⟩ | ⟨a, rest, -, rfl⟩ |
    ⟨rest, -, rfl | hm⟩ | ⟨rest, hs, rfl⟩ | ⟨rest, -, hm⟩ | ⟨k, rest, -, hm | ⟨-, rfl⟩ | ⟨-, j, ts, hj, rfl⟩⟩
  · exact .moved s.env.turns s.env.rdata (engineMove_effect hm)
  · rcases exec_cmd_cases (s.setTurns rest) w with ⟨-, he'⟩ | ⟨hi, u, he', hu⟩ <;>
      obtain rfl := Host.Outcome.next.inj (he'.symm.trans he)
    · exact .passed rest s.env.rdata 0
    · exact .command w rest hs hi hu
  · by_cases hi : s.ctl.eng = .idle
    · rw [State.writeReg, if_pos (by exact hi)]
      exact .stored a d rest hs hi
    · rw [writeReg_of_not_idle (s := s.setTurns rest) hi]
      exact .passed rest s.env.rdata 0
  · exact .passed rest (s.readReg a) 0
  · exact .passed rest (s.readReg statusReg) 0
  · exact .moved s.env.turns (s.readReg statusReg) (engineMove_effect hm)
  · exact .reset rest hs
  · exact .moved rest s.env.rdata (engineMove_effect hm)
  · exact .moved s.env.turns s.env.rdata (engineMove_effect hm)
  · exact .passed rest s.env.rdata k
  · exact .elapsed ts j hj

end Sys2Proof.Machine
end

section
/-! PROOFS. The invariant (10_state.md R35, R42, R48, R50; 41_pulse_sequencer.md R161): what it says of a BUSY and of a
resting engine, and that each command's list, every answer and every turn of the world outside keeps it. -/

namespace Sys2Proof.Machine

/-! ### Reading the invariant of a BUSY engine and of one that is not -/

/-- The level of the line at STEP k of the command under way (R161). -/
def State.pulseLevel (s : State) (k : Nat) : Level :=
  if lineAsserted s.ctl.curOp k = true then s.cfg.assertLevel else s.cfg.idleLevel

/-- What the invariant says of a BUSY engine whatever its STEP, at the moment at which no delay is left: the next action
may begin. -/
structure BusyInv (s : State) : Prop where
  busy : s.ctl.eng = .busy
  active : ActiveLegal s
  checked : s.precheck = .none
  parser : ParserLegal s
  res : s.res = { done := false, code := .ok, count := 0, chk := 0, err := 0, fatal := false, fatalCause := .none }
  dly : s.ctl.dly = 0

theorem lineLegal_of_busy {s : State} (hb : s.ctl.eng = .busy) :
    LineLegal s ↔ s.line = s.pulseLevel s.ctl.stepNo.toNat := by
  simp [LineLegal, State.pulseLevel, hb]

theorem lineLegal_of_not_busy {s : State} (hb : s.ctl.eng ≠ .busy) : LineLegal s ↔ s.line = s.cfg.idleLevel := by
  simp [LineLegal, hb]

/-- While the engine is BUSY every result register is clear (R50, R105). -/
theorem resultLegal_of_busy {s : State} (hb : s.ctl.eng = .busy) :
    ResultLegal s ↔
      s.res = { done := false, code := .ok, count := 0, chk := 0, err := 0, fatal := false, fatalCause := .none } := by
  rcases hr : s.res with ⟨d, c, n, k, e, f, fc⟩
  simp only [ResultLegal, hb, hr, Result.mk.injEq]
  constructor
  · rintro ⟨h, hf, hfc, -, -, -⟩
    simp_all
  · rintro ⟨rfl, rfl, rfl, rfl, rfl, rfl, rfl⟩
    simp

theorem StateInv.busyInv {s : State} (h : StateInv s) (hb : s.ctl.eng = .busy) (hd : s.ctl.dly = 0) : BusyInv s := by
  obtain ⟨ha, hc, -, hp, -, hr, -, -⟩ := h
  exact ⟨hb, ha, (hc hb).2, hp, (resultLegal_of_busy hb).1 hr, hd⟩

theorem BusyInv.stateInv {s : State} (h : BusyInv s) (hk : stepLegal s.ctl.curOp s.ctl.stepNo.toNat = true)
    (hl : s.line = s.pulseLevel s.ctl.stepNo.toNat) (hp : ParseLegal s) (hf : FrameLegal s) : StateInv s :=
  ⟨h.active, fun _ => ⟨hk, h.checked⟩, (lineLegal_of_busy h.busy).2 hl, h.parser, hp, (resultLegal_of_busy h.busy).2 h.res,
    by simp [DelayLegal, h.dly], hf⟩

/-- A resting engine: the parts about the command under way say nothing. -/
theorem stateInv_of_not_busy {s : State} (hb : s.ctl.eng ≠ .busy) :
    StateInv s ↔ ActiveLegal s ∧ s.line = s.cfg.idleLevel ∧ ParserLegal s ∧ ResultLegal s ∧ s.ctl.dly = 0 := by
  have hd : DelayLegal s ↔ s.ctl.dly = 0 := by
    simp only [DelayLegal, State.delayUnderWay, action_of_not_busy hb, Nat.le_zero]
    exact ⟨fun h => BitVec.eq_of_toNat_eq h, fun h => by rw [h]; rfl⟩
  simp only [StateInv, lineLegal_of_not_busy hb, hd]
  simp only [ControlLegal, ParseLegal, FrameLegal, hb, false_implies, true_and, and_true]

/-! ### The beginning of an action keeps the invariant, by the kind of the action -/

theorem enterStep_of_action {s : State} {k : BitVec 5} {a : Action} (h : (s.setStep k).action = a) :
    s.enterStep k = (s.setStep k).begin a := by
  rw [State.enterStep, h]

theorem BusyInv.setStep {s : State} (h : BusyInv s) (k : BitVec 5) : BusyInv (s.setStep k) :=
  ⟨h.busy, h.active, h.checked, h.parser, h.res, h.dly⟩

theorem driveLine_inv {u : State} {l : Level} (h : BusyInv u) (hk : stepLegal u.ctl.curOp u.ctl.stepNo.toNat = true)
    (hl : l = u.pulseLevel u.ctl.stepNo.toNat) (hp : ParseLegal u) (hf : FrameLegal u) : StateInv (u.driveLine l) :=
  BusyInv.stateInv (s := u.driveLine l) ⟨h.busy, h.active, h.checked, h.parser, h.res, h.dly⟩ hk hl hp hf

theorem loadDelay_inv {u : State} {n : Nat} (h : StateInv u) (ha : u.action = .delay (some n)) (hn : n < 4294967296) :
    StateInv (u.loadDelay (BitVec.ofNat 32 n)) := by
  refine (stateInv_of_env _ u.env).1 ?_
  obtain ⟨i1, i2, i3, i4, i5, i6, -, i8⟩ := h
  refine ⟨i1, i2, i3, i4, i5, i6, ?_, i8⟩
  have hact : ({ u with ctl := { u.ctl with dly := BitVec.ofNat 32 n } } : State).action = .delay (some n) :=
    (action_of_dly u _).trans ha
  change (BitVec.ofNat 32 n).toNat ≤
    ({ u with ctl := { u.ctl with dly := BitVec.ofNat 32 n } } : State).delayUnderWay
  rw [State.delayUnderWay, hact, toNat_ofNat_of_lt hn]

/-- A command ends with the line idle, each payload with its own code (R24, R50). -/
theorem complete_inv {u : State} {c : RCode} {n : BitVec 4} {k e : Byte} (h : BusyInv u) (hl : u.line = u.cfg.idleLevel)
    (hn : n ≠ 0 → c = .onlyPartialResponse) (hk : k ≠ 0 → c = .ok) (he : e ≠ 0 → c = .transportError) :
    StateInv (u.complete c n k e) := by
  rw [stateInv_of_not_busy (by simp)]
  refine ⟨h.active, hl, h.parser, ?_, h.dly⟩
  simp only [ResultLegal, State.complete_res, State.complete_ctl, h.res]
  exact ⟨by simp, by simp, by simp, hn, hk, he⟩

theorem selectResult_inv {u : State} (h : BusyInv u) (hl : u.line = u.cfg.idleLevel) : StateInv u.selectResult := by
  rcases selectResult_cases u with e | e | e | ⟨c, e⟩ <;> rw [e]
  · exact complete_inv h hl (by simp) (by simp) (by simp)
  · exact complete_inv h hl (by simp) (by simp) (by simp)
  · exact complete_inv h hl (by simp) (by simp) (by simp)
  · exact complete_inv h hl (by simp) (by simp) (by simp)

/-! ### The next STEP of each command keeps the invariant -/

/-- The STEPs of a pulse command's list, one by one. -/
theorem pulseStep_cases {k : BitVec 5} (h1 : 1 ≤ k.toNat) (h : k.toNat ≤ 5) :
    k = 1 ∨ k = 2 ∨ k = 3 ∨ k = 4 ∨ k = 5 := by
  revert k; decide

/-- The STEPs of a frame command's list: STEP 1, the break, and those after it. -/
theorem frameStep_cases {k : BitVec 5} (h1 : 1 ≤ k.toNat) (h : k.toNat ≤ 11) :
    k = 1 ∨ (2 ≤ k.toNat ∧ k.toNat ≤ 5) ∨ k = 6 ∨ k = 7 ∨ k = 8 ∨ k = 9 ∨ k = 10 ∨ k = 11 := by
  revert k; decide

/-- Once the asserted interval of its break is over, and before it, a frame command has the line idle. -/
theorem pulseLevel_of_not_asserted {s : State} {k : Nat} (h : lineAsserted s.ctl.curOp k = false) :
    s.pulseLevel k = s.cfg.idleLevel := by
  simp [State.pulseLevel, h]

section Enter

variable {s : State} {k : BitVec 5} (h : BusyInv s)
include h

/-- The j-th action of a pulse begins (R160): the two Line actions set the level that their STEPs have from then on. -/
theorem enterStep_pulse_inv {a r : Nat} (j : Nat) (ha : (s.setStep k).action = pulseAction s.cfg (some a) (some r) j)
    (hal : a < 4294967296) (hrl : r < 4294967296)
    (hplace : j < 4 ∧ stepLegal s.ctl.curOp k.toNat = true ∧ lineAsserted s.ctl.curOp k.toNat = decide (j < 2) ∧
      lineAsserted s.ctl.curOp (k.toNat - 1) = decide (j = 1 ∨ j = 2))
    (hl : s.line = s.pulseLevel (k.toNat - 1)) (hp : ParseLegal (s.setStep k)) (hf : FrameLegal (s.setStep k)) :
    StateInv (s.enterStep k) := by
  obtain ⟨hj, hk, hnow, hprev⟩ := hplace
  have hset := h.setStep k
  rw [enterStep_of_action ha]
  simp only [State.pulseLevel, hprev] at hl
  interval_cases j
  · exact driveLine_inv hset hk (by simp [State.pulseLevel, hnow]) hp hf
  · exact loadDelay_inv (hset.stateInv hk (by simpa [State.pulseLevel, hnow] using hl) hp hf) ha hal
  · exact driveLine_inv hset hk (by simp [State.pulseLevel, hnow]) hp hf
  · exact loadDelay_inv (hset.stateInv hk (by simpa [State.pulseLevel, hnow] using hl) hp hf) ha hrl

/-- The delay at STEP k begins, outside the pulse. -/
theorem enterStep_delay_inv {n : Nat} (ha : (s.setStep k).action = .delay (some n)) (hn : n < 4294967296)
    (hk : stepLegal s.ctl.curOp k.toNat = true) (hl : s.line = s.pulseLevel k.toNat) (hp : ParseLegal (s.setStep k))
    (hf : FrameLegal (s.setStep k)) : StateInv (s.enterStep k) := by
  rw [enterStep_of_action ha]
  exact loadDelay_inv ((h.setStep k).stateInv hk hl hp hf) ha hn

/-- A pulse command (R162, R166): the four actions of its pulse from STEP 1 on, then the ending. -/
theorem pulseCommand_enterStep_inv {a r : Nat} (ho : s.ctl.curOp = .sendBreak ∨ s.ctl.curOp = .sendWakeup)
    (hact : ∀ j, j < 4 → (s.setStep (BitVec.ofNat 5 (j + 1))).action = pulseAction s.cfg (some a) (some r) j)
    (hend : (s.setStep 5).action = .finish) (hal : a < 4294967296) (hrl : r < 4294967296)
    (h1 : 1 ≤ k.toNat) (h5 : k.toNat ≤ 5) (hl : s.line = s.pulseLevel (k.toNat - 1)) : StateInv (s.enterStep k) := by
  have hp : ∀ k, ParseLegal (s.setStep k) := by rcases ho with ho | ho <;> simp [ParseLegal, ho]
  have hf : ∀ k, FrameLegal (s.setStep k) := by rcases ho with ho | ho <;> simp [FrameLegal, ho]
  rcases pulseStep_cases h1 h5 with rfl | rfl | rfl | rfl | rfl
  · exact enterStep_pulse_inv h 0 (hact 0 (by decide)) hal hrl (by rcases ho with ho | ho <;> rw [ho] <;> decide) hl (hp _) (hf _)
  · exact enterStep_pulse_inv h 1 (hact 1 (by decide)) hal hrl (by rcases ho with ho | ho <;> rw [ho] <;> decide) hl (hp _) (hf _)
  · exact enterStep_pulse_inv h 2 (hact 2 (by decide)) hal hrl (by rcases ho with ho | ho <;> rw [ho] <;> decide) hl (hp _) (hf _)
  · exact enterStep_pulse_inv h 3 (hact 3 (by decide)) hal hrl (by rcases ho with ho | ho <;> rw [ho] <;> decide) hl (hp _) (hf _)
  · rw [enterStep_of_action hend]
    refine complete_inv (h.setStep 5) ?_ (by simp) (by simp) (by simp)
    rcases ho with ho | ho <;> simpa [State.pulseLevel, ho, lineAsserted] using hl

theorem sendBreak_enterStep_inv (ho : s.ctl.curOp = .sendBreak) (h1 : 1 ≤ k.toNat) (h5 : k.toNat ≤ 5)
    (hl : s.line = s.pulseLevel (k.toNat - 1)) : StateInv (s.enterStep k) := by
  have hact := fun k => action_sendBreak (s := s.setStep k) h.busy ho
  refine pulseCommand_enterStep_inv h (.inl ho) (fun j hj => (hact _).trans ?_) (hact 5) (breakNs_lt s.active)
    (bitNs_lt s.active) h1 h5 hl
  interval_cases j <;> rfl

theorem sendWakeup_enterStep_inv (ho : s.ctl.curOp = .sendWakeup) (h1 : 1 ≤ k.toNat) (h5 : k.toNat ≤ 5)
    (hl : s.line = s.pulseLevel (k.toNat - 1)) : StateInv (s.enterStep k) := by
  have hact := fun k => action_sendWakeup (s := s.setStep k) h.busy ho
  have hc := h.checked
  simp only [State.precheck, ho] at hc
  obtain ⟨n, hn, -⟩ := (precheckSendWakeup_none_iff s).1 hc
  refine pulseCommand_enterStep_inv h (.inr ho) (fun j hj => (hact _).trans ?_) (hact 5) (wakeupNs_lt hn) (wakeupNs_lt hn)
    h1 h5 hl
  rw [← hn]
  interval_cases j <;> rfl

/-- The break that SEND_FRAME and READ_FRAME share (R163): STEPs 2 to 5 of both lists. -/
theorem break_enterStep_inv (ho : s.ctl.curOp = .sendFrame ∨ s.ctl.curOp = .readFrame)
    (hact : ∀ j, j < 4 → (s.setStep (BitVec.ofNat 5 (j + 2))).action = breakAction s j)
    (h2 : 2 ≤ k.toNat) (h5 : k.toNat ≤ 5) (hl : s.line = s.pulseLevel (k.toNat - 1))
    (hf : FrameLegal (s.setStep k)) : StateInv (s.enterStep k) := by
  have hp : ParseLegal (s.setStep k) := fun _ _ h9 => absurd h9 (by simp only [State.setStep_ctl]; omega)
  have hal := breakNs_lt s.active
  have hrl := bitNs_lt s.active
  rcases pulseStep_cases (by omega) h5 with rfl | rfl | rfl | rfl | rfl
  · exact absurd h2 (by decide)
  · exact enterStep_pulse_inv h 0 (hact 0 (by decide)) hal hrl (by rcases ho with ho | ho <;> rw [ho] <;> decide) hl hp hf
  · exact enterStep_pulse_inv h 1 (hact 1 (by decide)) hal hrl (by rcases ho with ho | ho <;> rw [ho] <;> decide) hl hp hf
  · exact enterStep_pulse_inv h 2 (hact 2 (by decide)) hal hrl (by rcases ho with ho | ho <;> rw [ho] <;> decide) hl hp hf
  · exact enterStep_pulse_inv h 3 (hact 3 (by decide)) hal hrl (by rcases ho with ho | ho <;> rw [ho] <;> decide) hl hp hf

/-- The frame as it stands right after construction: TXI is at its first byte (R183). -/
theorem buildFrame_inv (ho : s.ctl.curOp = .sendFrame) (hk : s.ctl.stepNo = 1) (hl : s.line = s.cfg.idleLevel)
    (hlen : s.ops.len.toNat ≤ 8) : StateInv s.buildFrame := by
  have hb : BusyInv s.buildFrame := ⟨h.busy, h.active, h.checked, h.parser, h.res, h.dly⟩
  have hpos : 0 < (3 + s.ops.len).toNat := by rw [frameLen_toNat hlen]; omega
  refine hb.stateInv ?_ ?_ ?_ ⟨fun _ _ => ⟨rfl, rfl, fun _ => hpos⟩, ?_⟩
  · simp [ho, hk, stepLegal]
  · rw [pulseLevel_of_not_asserted (by simp [ho, hk, lineAsserted])]
    exact hl
  · simp [ParseLegal, ho]
  · simp [ho]

/-- SEND_FRAME (R181): the frame is built at STEP 1 and stays, TXI within it up to the burst's last byte. -/
theorem sendFrame_enterStep_inv (ho : s.ctl.curOp = .sendFrame) (h1 : 1 ≤ k.toNat) (h9 : k.toNat ≤ 9)
    (hl : s.line = s.pulseLevel (k.toNat - 1)) (hf : k ≠ 1 → FrameLegal (s.setStep k)) : StateInv (s.enterStep k) := by
  have hact := fun k => action_sendFrame (s := s.setStep k) h.busy ho
  have hidle : ∀ k, lineAsserted .sendFrame k = false → s.pulseLevel k = s.cfg.idleLevel := fun k hk =>
    pulseLevel_of_not_asserted (by rw [ho]; exact hk)
  have hp : ParseLegal (s.setStep k) := by simp [ParseLegal, ho]
  have hset := h.setStep k
  have hc := h.checked
  simp only [State.precheck, ho] at hc
  obtain ⟨-, hlen, d, hd⟩ := (precheckSendFrame_none_iff s).1 hc
  rcases frameStep_cases h1 (by omega) with rfl | ⟨h2, h5⟩ | rfl | rfl | rfl | rfl | rfl | rfl
  · rw [enterStep_of_action (hact 1)]
    exact buildFrame_inv hset ho rfl (hl.trans (hidle 0 rfl)) hlen
  · refine break_enterStep_inv h (.inl ho) (fun j hj => (hact _).trans ?_) h2 h5 hl (hf (by rintro rfl; simp at h2))
    interval_cases j <;> rfl
  · rw [enterStep_of_action (hact 6)]
    exact hset.stateInv (by simp [ho, stepLegal]) ((hl.trans (hidle 5 rfl)).trans (hidle 6 rfl).symm) hp (hf (by decide))
  · rw [enterStep_of_action (hact 7)]
    exact hset.stateInv (by simp [ho, stepLegal]) ((hl.trans (hidle 6 rfl)).trans (hidle 7 rfl).symm) hp (hf (by decide))
  · exact enterStep_delay_inv h ((hact 8).trans (congrArg _ hd)) (policyNs_lt hd) (by simp [ho, stepLegal])
      ((hl.trans (hidle 7 rfl)).trans (hidle 8 rfl).symm) hp (hf (by decide))
  · rw [enterStep_of_action (hact 9)]
    exact complete_inv hset (hl.trans (hidle 8 rfl)) (by simp) (by simp) (by simp)
  · simp at h9
  · simp at h9

/-- The parser is initialised (R201) at STEP 9. -/
theorem initParser_inv (ho : s.ctl.curOp = .readFrame) (hk : s.ctl.stepNo = 9) (hl : s.line = s.cfg.idleLevel)
    (hf : FrameLegal s) : StateInv s.initParser := by
  have hb : BusyInv s.initParser := ⟨h.busy, h.active, h.checked, by simp [ParserLegal], h.res, h.dly⟩
  refine hb.stateInv ?_ ?_ ?_ hf
  · simp [ho, hk, stepLegal]
  · rw [pulseLevel_of_not_asserted (by simp [ho, hk, lineAsserted])]
    exact hl
  · simp [ParseLegal]

/-- READ_FRAME (R231): a parse that has stopped leaves COUNT as the parse loop had it (R48). -/
theorem readFrame_enterStep_inv (ho : s.ctl.curOp = .readFrame) (h1 : 1 ≤ k.toNat) (h11 : k.toNat ≤ 11)
    (hl : s.line = s.pulseLevel (k.toNat - 1)) (hf : FrameLegal (s.setStep k))
    (hp : k = 10 → ParseLegal (s.setStep k)) : StateInv (s.enterStep k) := by
  have hact := fun k => action_readFrame (s := s.setStep k) h.busy ho
  have hidle : ∀ k, lineAsserted .readFrame k = false → s.pulseLevel k = s.cfg.idleLevel := fun k hk =>
    pulseLevel_of_not_asserted (by rw [ho]; exact hk)
  have hearly : k.toNat < 9 → ParseLegal (s.setStep k) := fun h9 _ _ h' => absurd h' (by simp only [State.setStep_ctl]; omega)
  have hset := h.setStep k
  have hc := h.checked
  simp only [State.precheck, ho] at hc
  obtain ⟨-, -, ⟨d, hd⟩, r, hr⟩ := (precheckReadFrame_none_iff s).1 hc
  rcases frameStep_cases h1 h11 with rfl | ⟨h2, h5⟩ | rfl | rfl | rfl | rfl | rfl | rfl
  · exact enterStep_delay_inv h ((hact 1).trans (congrArg _ hd)) (policyNs_lt hd) (by simp [ho, stepLegal])
      ((hl.trans (hidle 0 rfl)).trans (hidle 1 rfl).symm) (hearly (by decide)) hf
  · refine break_enterStep_inv h (.inr ho) (fun j hj => (hact _).trans ?_) h2 h5 hl hf
    interval_cases j <;> rfl
  · rw [enterStep_of_action (hact 6)]
    exact hset.stateInv (by simp [ho, stepLegal]) ((hl.trans (hidle 5 rfl)).trans (hidle 6 rfl).symm) (hearly (by decide)) hf
  · rw [enterStep_of_action (hact 7)]
    exact hset.stateInv (by simp [ho, stepLegal]) ((hl.trans (hidle 6 rfl)).trans (hidle 7 rfl).symm) (hearly (by decide)) hf
  · exact enterStep_delay_inv h ((hact 8).trans (congrArg _ hr)) (policyNs_lt hr) (by simp [ho, stepLegal])
      ((hl.trans (hidle 7 rfl)).trans (hidle 8 rfl).symm) (hearly (by decide)) hf
  · rw [enterStep_of_action (hact 9)]
    exact initParser_inv hset ho rfl (hl.trans (hidle 8 rfl)) hf
  · exact enterStep_delay_inv h ((hact 10).trans (congrArg _ hd)) (policyNs_lt hd) (by simp [ho, stepLegal])
      ((hl.trans (hidle 9 rfl)).trans (hidle 10 rfl).symm) (hp rfl) hf
  · rw [enterStep_of_action (hact 11)]
    exact selectResult_inv hset (hl.trans (hidle 10 rfl))

end Enter

/-! ### Going on to the next STEP keeps the invariant -/

/-- The STEP counts up within its list without a carry (R42). -/
theorem stepNo_succ {k : BitVec 5} (h : k.toNat ≤ 10) : (k + 1).toNat = k.toNat + 1 := by
  revert k; decide

/-- STEP k, at which the command was, ends, and STEP k + 1 begins. -/
theorem BusyInv.nextStep_inv {s : State} (h : BusyInv s) (hk : stepLegal s.ctl.curOp s.ctl.stepNo.toNat = true)
    (hl : s.line = s.pulseLevel s.ctl.stepNo.toNat) (hf : FrameLegal (s.setStep (s.ctl.stepNo + 1)))
    (hp : s.ctl.stepNo = 9 → ParseLegal (s.setStep 10)) : StateInv s.nextStep := by
  rw [State.nextStep]
  cases ho : s.ctl.curOp <;> simp only [stepLegal, ho, decide_eq_true_eq] at hk
  case none => cases hk
  case init => cases hk
  all_goals
    have hs := stepNo_succ (k := s.ctl.stepNo) (by omega)
    have hl' : s.line = s.pulseLevel ((s.ctl.stepNo + 1).toNat - 1) := by rw [hs]; exact hl
  case sendBreak => exact sendBreak_enterStep_inv h ho (by omega) (by omega) hl'
  case sendWakeup => exact sendWakeup_enterStep_inv h ho (by omega) (by omega) hl'
  case sendFrame => exact sendFrame_enterStep_inv h ho (by omega) (by omega) hl' (fun _ => hf)
  case readFrame =>
    refine readFrame_enterStep_inv h ho (by omega) (by omega) hl' hf fun h10 => ?_
    rw [h10]
    exact hp (by bv_omega)

/-- Only the two header bytes move the index into the header (R43). -/
theorem headerIndex_succ {k : Nat} (h6 : k ≠ 6) (h7 : k ≠ 7) : headerIndex (k + 1) = headerIndex k := by
  rcases Nat.lt_or_ge k 6 with h | h
  · rw [headerIndex, headerIndex, if_pos (by omega), if_pos (by omega)]
  · rw [headerIndex, headerIndex, if_neg (by omega), if_neg (by omega), if_neg (by omega), if_neg (by omega)]

/-- From a state that keeps the invariant, an action that has ended, no TxByte, leads to the next STEP. -/
theorem StateInv.nextStep_inv {s : State} (h : StateInv s) (hb : s.ctl.eng = .busy) (hd : s.ctl.dly = 0)
    (ha : ∀ b m, s.action ≠ .tx b m) : StateInv s.nextStep := by
  have hbusy := h.busyInv hb hd
  obtain ⟨-, hc, hl, -, hp, -, -, hfs, hfr⟩ := h
  obtain ⟨hk, -⟩ := hc hb
  refine hbusy.nextStep_inv hk ((lineLegal_of_busy hb).1 hl) ⟨fun _ ho => ?_, fun _ ho => ?_⟩ fun h9 _ ho _ => ?_
  · obtain ⟨hfr, hfl, htx⟩ := hfs hb ho
    simp only [State.setStep_ctl, State.setStep_frame, State.setStep_frameLen, State.setStep_ops] at ho ⊢
    simp only [stepLegal, ho, decide_eq_true_eq] at hk
    rw [stepNo_succ (by omega)]
    exact ⟨hfr, hfl, fun h6 => htx (by omega)⟩
  · have ho : s.ctl.curOp = .readFrame := ho
    have htx := hfr hb ho
    have h6 : s.ctl.stepNo ≠ 6 := fun hk => ha _ _ (action_readFrame_sync hb ho hk)
    have h7 : s.ctl.stepNo ≠ 7 := fun hk => ha _ _ (action_readFrame_id hb ho hk)
    simp only [stepLegal, ho, decide_eq_true_eq] at hk
    change s.ctl.txi = headerIndex (s.ctl.stepNo + 1).toNat
    rw [htx, stepNo_succ (by omega)]
    exact (headerIndex_succ (fun h => h6 (BitVec.eq_of_toNat_eq h)) fun h => h7 (BitVec.eq_of_toNat_eq h)).symm
  · obtain ⟨hrd, hck, -⟩ := hp hb ho (by rw [h9]; decide)
    exact ⟨hrd, hck, fun h => by simp at h⟩

/-! ### Every effect keeps the invariant -/

/-- At a STEP outside the asserted interval the line is idle (R161). -/
theorem StateInv.line_idle {s : State} (h : StateInv s) (hb : s.ctl.eng = .busy)
    (hk : lineAsserted s.ctl.curOp s.ctl.stepNo.toNat = false) : s.line = s.cfg.idleLevel :=
  ((lineLegal_of_busy hb).1 h.2.2.1).trans (pulseLevel_of_not_asserted hk)

section Answers

variable {s : State} (h : StateInv s)
include h

/-- An action that is no delay finds DLY at 0, so that the next one may begin. -/
theorem StateInv.busyInv_of_action {a : Action} (ha : s.action = a) (hn : a ≠ .none) (hd : ∀ d, a ≠ .delay d) : BusyInv s :=
  h.busyInv (busy_of_action (ha ▸ hn)) (dly_eq_zero h (ha ▸ hd))

theorem record_inv (e : Event) : StateInv (s.record e) := (stateInv_of_env s _).2 h

/-- An Ok answer keeps TXI within the frame, or at the index into the header (R43, R185, R234). -/
theorem txTaken_inv {b : Byte} {m : Bool} (ha : s.action = .tx b m) : StateInv (s.txTaken b m) := by
  have hb := h.busyInv_of_action ha (by simp) (by simp)
  obtain ⟨hbusy, hactive, hchecked, hparser, hres, hdly⟩ := hb
  have hu : BusyInv ((s.record (.tx b .ok)).setTxi (s.ctl.txi + 1)) := ⟨hbusy, hactive, hchecked, hparser, hres, hdly⟩
  obtain ⟨-, -, hl, -, -, -, -, hfs, hfr⟩ := h
  have hl := (lineLegal_of_busy hbusy).1 hl
  unfold State.txTaken
  rcases place_of_tx ha with ⟨ho, hk, -, rfl⟩ | ⟨ho, hk, -, rfl⟩ | ⟨ho, hk, -, rfl⟩
  · obtain ⟨hf, hfl, -⟩ := hfs hbusy ho
    by_cases hmore : s.ctl.txi.toNat + 1 < s.frameLen.toNat
    · rw [if_pos (decide_eq_true hmore)]
      refine hu.stateInv (by simp [ho, hk, stepLegal]) hl (by simp [ParseLegal, ho]) ⟨fun _ _ => ⟨hf, hfl, fun _ => ?_⟩, ?_⟩
      · change (s.ctl.txi + 1).toNat < s.frameLen.toNat
        bv_omega
      · simp [ho]
    · rw [if_neg (by simpa using hmore)]
      refine hu.nextStep_inv (by simp [ho, hk, stepLegal]) hl ⟨fun _ _ => ⟨hf, hfl, ?_⟩, ?_⟩ (by simp [hk])
      · simp [hk]
      · simp [ho]
  · refine hu.nextStep_inv (by simp [ho, hk, stepLegal]) hl ⟨by simp [ho], fun _ _ => ?_⟩ (by simp [hk])
    simp [hfr hbusy ho, hk, headerIndex]
  · refine hu.nextStep_inv (by simp [ho, hk, stepLegal]) hl ⟨by simp [ho], fun _ _ => ?_⟩ (by simp [hk])
    simp [hfr hbusy ho, hk, headerIndex]

theorem txFailed_inv {b : Byte} {m : Bool} (ha : s.action = .tx b m) (e : Byte) : StateInv (s.txFailed e b) := by
  have hb := (record_inv h (.tx b (.err e))).busyInv_of_action ((action_of_env s _).trans ha) (by simp) (by simp)
  refine complete_inv hb (h.line_idle hb.busy ?_) (by simp) (by simp) (by simp)
  rcases place_of_tx ha with ⟨ho, hk, -⟩ | ⟨ho, hk, -⟩ | ⟨ho, hk, -⟩ <;> simp [ho, hk, lineAsserted]

theorem flushed_inv (ha : s.action = .flush) : StateInv (s.record (.flush .ok)).nextStep := by
  have hu := record_inv h (.flush .ok)
  have ha' : (s.record (.flush .ok)).action = .flush := (action_of_env s _).trans ha
  exact hu.nextStep_inv (busy_of_action (by simp [ha'])) (dly_eq_zero hu (by simp [ha'])) (by simp [ha'])

theorem notFlushed_inv (ha : s.action = .flush) :
    StateInv ((s.record (.flush .fail)).complete .writeNotAcknowledged 0 0 0) := by
  have hb := (record_inv h (.flush .fail)).busyInv_of_action ((action_of_env s _).trans ha) (by simp) (by simp)
  obtain ⟨ho, hk⟩ := place_of_flush ha
  exact complete_inv hb (h.line_idle hb.busy (by simp [ho, hk, lineAsserted])) (by simp) (by simp) (by simp)

/-- A parse that stops here begins the trailing space, with COUNT as R48 has it; u is the state after the answer. -/
theorem pollStop_inv {u : State} (hp : s.polling = true) (hb : BusyInv u) (hctl : u.ctl = s.ctl) (hcfg : u.cfg = s.cfg)
    (hline : u.line = s.line)
    (hparse : (u.parser.phase = .readData → u.parser.count.toNat < u.ops.len.toNat) ∧
      (u.parser.phase = .awaitChecksum ∨ u.parser.phase = .done → u.parser.count = u.ops.len)) : StateInv u.nextStep := by
  obtain ⟨hbusy, ho, hk, -⟩ := (polling_iff s).1 hp
  obtain ⟨-, -, hl, -, -, -, -, -, hfr⟩ := h
  refine hb.nextStep_inv (by simp [hctl, ho, hk, stepLegal]) ?_ ⟨by simp [hctl, ho], fun _ _ => ?_⟩ fun _ _ _ _ => ?_
  · rw [hline, (lineLegal_of_busy hbusy).1 hl]
    simp [State.pulseLevel, hctl, hcfg]
  · simp [hctl, hfr hbusy ho, hk, headerIndex]
  · exact ⟨hparse.1, hparse.2, fun h => by simp at h⟩

/-- A parse that goes on, with COUNT as R48 has it; u is the state after the answer. -/
theorem pollOn_inv {u : State} (hp : s.polling = true) (hb : BusyInv u) (hctl : u.ctl = s.ctl) (hcfg : u.cfg = s.cfg)
    (hline : u.line = s.line) (hparse : ParseLegal u) : StateInv u := by
  obtain ⟨hbusy, ho, hk, -⟩ := (polling_iff s).1 hp
  obtain ⟨-, -, hl, -, -, -, -, -, hfr⟩ := h
  refine hb.stateInv (by simp [hctl, ho, hk, stepLegal]) ?_ hparse ⟨by simp [hctl, ho], fun _ _ => ?_⟩
  · rw [hline, (lineLegal_of_busy hbusy).1 hl]
    simp [State.pulseLevel, hctl, hcfg]
  · rw [hctl]
    exact hfr hbusy ho

/-- Every answer to RxPoll keeps the invariant (R202 to R210). -/
theorem pollEffect_inv {l : List RxWord} {a : RxAnswer} {t : State} (hp : s.polling = true)
    (ht : PollEffect s ((s.setRxAns l).record (.rx a)) t) : StateInv t := by
  obtain ⟨hbusy, ho, hk, hd⟩ := (polling_iff s).1 hp
  have hact : s.action = .parse := by simpa [hd, State.polling] using hp
  obtain ⟨-, hactive, hchecked, hparser, hres, hdly⟩ := h.busyInv_of_action hact (by simp) (by simp)
  have hsame : BusyInv ((s.setRxAns l).record (.rx a)) := ⟨hbusy, hactive, hchecked, hparser, hres, hdly⟩
  have hlen : 1 ≤ s.ops.len.toNat ∧ s.ops.len.toNat ≤ 8 := by
    simp only [State.precheck, ho] at hchecked
    obtain ⟨h1, h8, -⟩ := (precheckReadFrame_none_iff s).1 hchecked
    exact ⟨h1, h8⟩
  have hparse := h.2.2.2.2.1
  obtain ⟨hrd, hck, -⟩ := hparse hbusy ho (by rw [hk]; decide)
  obtain ⟨hsync, hzero, h8⟩ := hparser
  cases ht with
  | stop => exact pollStop_inv h hp hsame rfl rfl rfl ⟨hrd, hck⟩
  | error e =>
    exact pollStop_inv h hp ⟨hbusy, hactive, hchecked, ⟨hsync, hzero, h8⟩, hres, hdly⟩ rfl rfl rfl ⟨hrd, hck⟩
  | sync hph =>
    refine pollOn_inv h hp ⟨hbusy, hactive, hchecked, ⟨by simp, fun _ => hzero (.inl hph), h8⟩, hres, hdly⟩ rfl rfl rfl ?_
    simp [ParseLegal]
  | other hph => exact pollOn_inv h hp hsame rfl rfl rfl hparse
  | idMatch hph =>
    refine pollOn_inv h hp ⟨hbusy, hactive, hchecked, ⟨fun hs => ?_, by simp, h8⟩, hres, hdly⟩ rfl rfl rfl ?_
    · exact absurd (hsync hs) (by simp [hph])
    · refine fun _ _ _ => ⟨fun _ => ?_, by simp, by simp⟩
      change s.parser.count.toNat < s.ops.len.toNat
      rw [hzero (.inr hph)]
      exact hlen.1
  | idMismatch hph =>
    refine pollOn_inv h hp ⟨hbusy, hactive, hchecked, ⟨by simp, fun _ => hzero (.inr hph), h8⟩, hres, hdly⟩ rfl rfl rfl ?_
    simp [ParseLegal]
  | more b hph hc =>
    have hcount : (s.parser.count + 1).toNat = s.parser.count.toNat + 1 := by bv_omega
    refine pollOn_inv h hp ⟨hbusy, hactive, hchecked, ⟨hsync, by simp [hph], ?_⟩, hres, hdly⟩ rfl rfl rfl ?_
    · change (s.parser.count + 1).toNat ≤ 8
      omega
    · refine fun _ _ _ => ⟨fun _ => ?_, by simp [hph], by simp [hph]⟩
      change (s.parser.count + 1).toNat < s.ops.len.toNat
      omega
  | last b hph hc =>
    have hcount := count_succ_eq_len hc
    refine pollOn_inv h hp ⟨hbusy, hactive, hchecked, ⟨fun hs => ?_, by simp, ?_⟩, hres, hdly⟩ rfl rfl rfl ?_
    · exact absurd (hsync hs) (by simp [hph])
    · change (s.parser.count + 1).toNat ≤ 8
      rw [hcount]
      exact hlen.2
    · exact fun _ _ _ => ⟨by simp, fun _ => hcount, by simp⟩
  | checksum b hph =>
    refine pollStop_inv h hp ⟨hbusy, hactive, hchecked, ⟨fun hs => ?_, by simp, h8⟩, hres, hdly⟩ rfl rfl rfl
      ⟨by simp, fun _ => ?_⟩
    · exact absurd (hsync hs) (by simp [hph])
    · exact hck (.inl hph)

/-- Whatever the engine does by itself, with time or with an answer, keeps the invariant. -/
theorem moveEffect_inv {t : State} (ht : MoveEffect s t) : StateInv t := by
  have hlegal : s.action ≠ .none → s.action ≠ .finish ∧ s.action ≠ .select := fun hn =>
    (action_of_stepLegal (busy_of_action hn) (h.2.1 (busy_of_action hn)).1).2
  cases ht with
  | stay => exact h
  | built ha => exact h.nextStep_inv (busy_of_action (by simp [ha])) (dly_eq_zero h (by simp [ha])) (by simp [ha])
  | driven l ha => exact h.nextStep_inv (busy_of_action (by simp [ha])) (dly_eq_zero h (by simp [ha])) (by simp [ha])
  | delayed d ha =>
    refine (serveDelay_inv h).nextStep_inv (busy_of_action (s := s) (by simp [ha])) (by rw [serveDelay_eq]) ?_
    simp [serveDelay_action, ha]
  | taken b m l ha => exact txTaken_inv (s := s.setTxAns l) ((stateInv_of_env s _).2 h) ((action_of_env s _).trans ha)
  | notTaken e b m l ha => exact txFailed_inv (s := s.setTxAns l) ((stateInv_of_env s _).2 h) ((action_of_env s _).trans ha) e
  | flushed l ha => exact flushed_inv (s := s.setFlushAns l) ((stateInv_of_env s _).2 h) ((action_of_env s _).trans ha)
  | notFlushed l ha => exact notFlushed_inv (s := s.setFlushAns l) ((stateInv_of_env s _).2 h) ((action_of_env s _).trans ha)
  | polled a l hp ht => exact pollEffect_inv h hp ht
  | parsed ha hph =>
    obtain ⟨hb, ho, hk⟩ := step9_of_parse ha
    exact absurd hph ((h.2.2.2.2.1 hb ho (by rw [hk]; decide)).2.2 hk)
  | finished ha => exact absurd ha (hlegal (by simp [ha])).1
  | selected ha => exact absurd ha (hlegal (by simp [ha])).2

end Answers

/-! ### The turns of the world outside keep the invariant -/

/-- Settles O49: the reset state is IDLE, so that only its registers' own values are asked for. -/
theorem resetMeetsTheInvariant : Obligations.ResetMeetsTheInvariant := by
  intro c
  rw [stateInv_of_not_busy (by simp [State.resetWith])]
  exact ⟨rfl, rfl, by simp [ParserLegal, State.resetWith], by simp [ResultLegal, State.resetWith], rfl⟩

section Commands

variable {s : State} (h : StateInv s) (hi : s.ctl.eng = .idle)
include h hi

/-- In IDLE neither FATAL nor its cause stands (R258). -/
theorem idle_not_fatal : s.res.fatal = false ∧ s.res.fatalCause = .none := by
  obtain ⟨-, -, -, -, -, ⟨-, hf, hc, -⟩, -⟩ := h
  simp only [hi, reduceCtorEq, iff_false, Bool.not_eq_true, not_not] at hf hc
  exact ⟨hf, hc⟩

/-- An accepted command whose precheck passes may begin its first action. -/
theorem accept_busyInv {op : CurOp} (hc : (s.accept op).precheck = .none) : BusyInv (s.accept op) := by
  obtain ⟨hf, hfc⟩ := idle_not_fatal h hi
  obtain ⟨ha, -, hp, -, hd⟩ := (stateInv_of_not_busy (by simp [hi])).1 h
  exact ⟨rfl, ha, hc, hp, by simp [hf, hfc], hd⟩

/-- A command that ends with its acceptance, with no payload (R121, R152). -/
theorem accept_complete_inv {op : CurOp} (c : RCode) : StateInv ((s.accept op).complete c 0 0 0) := by
  obtain ⟨hf, hfc⟩ := idle_not_fatal h hi
  obtain ⟨ha, hl, hp, -, hd⟩ := (stateInv_of_not_busy (by simp [hi])).1 h
  exact (stateInv_of_not_busy (by simp)).2 ⟨ha, hl, hp, by simp [ResultLegal, hf, hfc], hd⟩

/-- A command whose precheck fails halts with its cause (R258). -/
theorem accept_raiseFatal_inv {op : CurOp} {c : FatalCause} (hc : c ≠ .none) : StateInv ((s.accept op).raiseFatal c) := by
  obtain ⟨ha, hl, hp, -, hd⟩ := (stateInv_of_not_busy (by simp [hi])).1 h
  exact (stateInv_of_not_busy (by simp)).2 ⟨ha, hl, hp, by simp [ResultLegal, hc], hd⟩

theorem refuse_inv : StateInv s.refuse := by
  obtain ⟨hf, hfc⟩ := idle_not_fatal h hi
  obtain ⟨ha, hl, hp, -, hd⟩ := (stateInv_of_not_busy (by simp [hi])).1 h
  exact (stateInv_of_not_busy (by simp [State.refuse])).2 ⟨ha, hl, hp, by simp [State.refuse, ResultLegal, hf, hfc], hd⟩

/-- The staging profile that INIT installs holds no reserved selector (R35, R152). -/
theorem installProfile_inv (hr : s.staging.hasReservedSelector = false) :
    StateInv ((s.accept .init).installProfile.complete .ok 0 0 0) := by
  obtain ⟨hf, hfc⟩ := idle_not_fatal h hi
  obtain ⟨-, hl, hp, -, hd⟩ := (stateInv_of_not_busy (by simp [hi])).1 h
  exact (stateInv_of_not_busy (by simp)).2 ⟨hr, hl, hp, by simp [ResultLegal, hf, hfc], hd⟩

/-- Every effect of a CMD word keeps the invariant: the line is idle when the first action begins. -/
theorem commandEffect_inv {w : Word} {t : State} (ht : CommandEffect s w t) : StateInv t := by
  have hl : s.line = s.cfg.idleLevel := ((stateInv_of_not_busy (by simp [hi])).1 h).2.1
  cases ht with
  | refused => exact refuse_inv h hi
  | initRefused => exact accept_complete_inv h hi .refused
  | installed _ hr => exact installProfile_inv h hi hr
  | halted op c hc => exact accept_raiseFatal_inv h hi hc
  | sendBreak => exact sendBreak_enterStep_inv (accept_busyInv h hi rfl) rfl (by decide) (by decide) hl
  | sendWakeup hc => exact sendWakeup_enterStep_inv (accept_busyInv h hi hc) rfl (by decide) (by decide) hl
  | sendFrame _ hc =>
    exact sendFrame_enterStep_inv (accept_busyInv h hi hc) rfl (by decide) (by decide) hl fun hk => absurd rfl hk
  | readFrame hc =>
    obtain ⟨hb, ha, hck, hp, hr, hd⟩ := accept_busyInv (op := .readFrame) h hi hc
    exact readFrame_enterStep_inv (s := (s.accept .readFrame).setTxi 0) ⟨hb, ha, hck, hp, hr, hd⟩ rfl (by decide) (by decide) hl
      ⟨by simp, by simp [headerIndex]⟩ (by simp)

/-- A register write in IDLE reaches the staging profile and the operands alone. -/
theorem storeReg_inv (a : BitVec 6) (d : Word) : StateInv (s.storeReg a d) := by
  have hn : s.ctl.eng ≠ .busy := by simp [hi]
  have hinv := (stateInv_of_not_busy hn).1 h
  have hkeep : ∀ p o, StateInv { s with staging := p, ops := o } := fun p o =>
    (stateInv_of_not_busy (s := { s with staging := p, ops := o }) hn).2 hinv
  rcases storeReg_cases s a d with ⟨-, e⟩ | ⟨-, e⟩ | ⟨-, e⟩ | ⟨-, e⟩ | ⟨-, -, e⟩ | ⟨-, e⟩ <;> rw [e]
  · exact hkeep _ s.ops
  · exact hkeep s.staging _
  · exact hkeep s.staging _
  · exact hkeep s.staging _
  · exact hkeep s.staging _
  · exact h

end Commands

/-- Settles O50, by the effects of a step; what touches the environment alone the invariant does not see. -/
theorem stepKeepsTheInvariant : Obligations.StepKeepsTheInvariant := by
  intro s t h hs
  have henv : ∀ e, StateInv { s with env := e } := fun e => (stateInv_of_env s e).2 h
  cases step_effect hs with
  | moved ts d ht => exact moveEffect_inv (s := (s.setTurns ts).setRdata d) (henv _) ht
  | command w rest _ hi ht => exact commandEffect_inv (s := s.setTurns rest) (henv _) hi ht
  | stored a d rest _ hi => exact storeReg_inv (s := s.setTurns rest) (henv _) hi a d
  | passed ts d k => exact henv _
  | elapsed ts k _ => exact (stateInv_of_env _ _).2 (elapse_inv h k)
  | reset rest _ => exact (stateInv_of_env _ _).2 (resetMeetsTheInvariant s.cfg)

end Sys2Proof.Machine
end

section
/-! PROOFS. What every step leaves alone (10_state.md sections 1 to 7, 20_memory.md section 7): the writers of each register,
and the trace as an append-only record. Each fact is said of the beginning of an action first, then of every effect. -/

namespace Sys2Proof.Machine

/-! ### Inputs, frame, line and trace -/

/-- From s to t the parameters, the profiles, the operands and the frame stay, the actions es are added to the trace, and
where the line moves the last of them is the Line action that moved it (R21, R23). -/
structure Progress (s t : State) (es : List Event) : Prop where
  cfg : t.cfg = s.cfg
  staging : t.staging = s.staging
  active : t.active = s.active
  ops : t.ops = s.ops
  frame : t.frame = s.frame
  frameLen : t.frameLen = s.frameLen
  trace : t.env.trace = s.env.trace ++ es
  line : t.line = s.line ∨ es.getLast? = some (.line t.line)

theorem Progress.refl (s : State) : Progress s s [] :=
  ⟨rfl, rfl, rfl, rfl, rfl, rfl, (List.append_nil _).symm, .inl rfl⟩

/-- An action is answered, which leaves the line, and what follows begins. -/
theorem Progress.trans {s u t : State} {es es' : List Event} (h : Progress s u es) (hl : u.line = s.line)
    (h' : Progress u t es') : Progress s t (es ++ es') := by
  refine ⟨h'.cfg.trans h.cfg, h'.staging.trans h.staging, h'.active.trans h.active, h'.ops.trans h.ops,
    h'.frame.trans h.frame, h'.frameLen.trans h.frameLen, ?_, ?_⟩
  · rw [h'.trace, h.trace, List.append_assoc]
  · rcases h'.line with hl' | hl'
    · exact .inl (hl'.trans hl)
    · exact .inr (by rw [List.getLast?_append, hl']; rfl)

/-- At most n actions, and no Flush among them. -/
def Quiet (es : List Event) (n : Nat) : Prop := es.length ≤ n ∧ ∀ a, Event.flush a ∉ es

theorem Quiet.cons {es : List Event} {n : Nat} {e : Event} (h : Quiet es n) (he : ∀ a, e ≠ .flush a) :
    Quiet (e :: es) (n + 1) :=
  ⟨Nat.succ_le_succ h.1, fun a ha => (List.mem_cons.1 ha).elim (fun h => he a h.symm) (h.2 a)⟩

/-- The beginning of an action other than frame construction (R23). -/
theorem begin_progress (s : State) {a : Action} (h : a ≠ .build) : ∃ es, Progress s (s.begin a) es ∧ Quiet es 1 := by
  have hnone : ∀ t : State, Progress s t [] → ∃ es, Progress s t es ∧ Quiet es 1 := fun t ht =>
    ⟨[], ht, by simp [Quiet]⟩
  cases a with
  | build => exact absurd rfl h
  | line l => exact ⟨[.line l], ⟨rfl, rfl, rfl, rfl, rfl, rfl, rfl, .inr rfl⟩, by simp [Quiet]⟩
  | delay n =>
    cases n with
    | none => exact hnone _ ⟨rfl, rfl, rfl, rfl, rfl, rfl, (List.append_nil _).symm, .inl rfl⟩
    | some n => exact ⟨[.delay (BitVec.ofNat 32 n)], ⟨rfl, rfl, rfl, rfl, rfl, rfl, rfl, .inl rfl⟩, by simp [Quiet]⟩
  | select =>
    obtain ⟨c, n, k, e, hs⟩ := selectResult_eq s
    refine hnone _ ?_
    rw [State.begin, hs]
    exact ⟨rfl, rfl, rfl, rfl, rfl, rfl, (List.append_nil _).symm, .inl rfl⟩
  | none => exact hnone _ (Progress.refl s)
  | tx b m => exact hnone _ (Progress.refl s)
  | flush => exact hnone _ (Progress.refl s)
  | parse => exact hnone _ ⟨rfl, rfl, rfl, rfl, rfl, rfl, (List.append_nil _).symm, .inl rfl⟩
  | finish => exact hnone _ ⟨rfl, rfl, rfl, rfl, rfl, rfl, (List.append_nil _).symm, .inl rfl⟩

/-- The frame is built on the way into STEP 1 of SEND_FRAME and nowhere else (R181). -/
theorem enterStep_progress (s : State) {k : BitVec 5} (h : s.ctl.curOp = .sendFrame → k ≠ 1) :
    ∃ es, Progress s (s.enterStep k) es ∧ Quiet es 1 := by
  obtain ⟨es, hp, hq⟩ := begin_progress (s.setStep k) (a := (s.setStep k).action) fun hb => by
    obtain ⟨ho, hk⟩ := place_of_build hb
    exact h ho hk
  exact ⟨es, ⟨hp.cfg, hp.staging, hp.active, hp.ops, hp.frame, hp.frameLen, hp.trace, hp.line⟩, hq⟩

/-- No list has an action at STEP 0 (R42). -/
theorem stepNo_ne_zero {s : State} (h : s.action ≠ .none) : s.ctl.stepNo ≠ 0 := by
  intro hk
  rcases action_list h with ⟨-, ha⟩ | ⟨-, ha⟩ | ⟨-, ha⟩ | ⟨-, ha⟩ <;> rw [hk] at ha <;> exact h ha

/-- An answer e is entered in the trace and the next action begins. -/
theorem record_nextStep_progress {s u : State} {e : Event} (hu : Progress s u [e]) (hl : u.line = s.line)
    (hk : u.ctl.stepNo ≠ 0) : ∃ es, Progress s u.nextStep (e :: es) ∧ Quiet es 1 := by
  obtain ⟨es, hp, hq⟩ := enterStep_progress u (k := u.ctl.stepNo + 1) fun _ h1 => hk (by bv_omega)
  exact ⟨es, hu.trans hl hp, hq⟩

theorem nextStep_progress {s u : State} (hu : Progress s u []) (hl : u.line = s.line) (hk : u.ctl.stepNo ≠ 0) :
    ∃ es, Progress s u.nextStep es ∧ Quiet es 1 := by
  obtain ⟨es, hp, hq⟩ := enterStep_progress u (k := u.ctl.stepNo + 1) fun _ h1 => hk (by bv_omega)
  exact ⟨es, hu.trans hl hp, hq⟩

theorem Quiet.mono {es : List Event} {m n : Nat} (h : Quiet es m) (hn : m ≤ n) : Quiet es n :=
  ⟨h.1.trans hn, h.2⟩

theorem pollEffect_progress {s u t : State} {a : RxAnswer} (hu : Progress s u [.rx a]) (hl : u.line = s.line)
    (hk : u.ctl.stepNo ≠ 0) (h : PollEffect s u t) : ∃ es, Progress s t es ∧ Quiet es 2 := by
  have hstop : ∀ v : State, Progress s v [.rx a] → v.line = s.line → v.ctl.stepNo ≠ 0 →
      ∃ es, Progress s v.nextStep es ∧ Quiet es 2 := fun v hv hvl hvk => by
    obtain ⟨es, hp, hq⟩ := record_nextStep_progress hv hvl hvk
    exact ⟨_, hp, hq.cons (by simp)⟩
  have hon : ∀ v : State, Progress s v [.rx a] → ∃ es, Progress s v es ∧ Quiet es 2 := fun v hv =>
    ⟨_, hv, by simp [Quiet]⟩
  obtain ⟨h1, h2, h3, h4, h5, h6, h7, h8⟩ := hu
  cases h with
  | stop => exact hstop _ ⟨h1, h2, h3, h4, h5, h6, h7, h8⟩ hl hk
  | error e => exact hstop _ ⟨h1, h2, h3, h4, h5, h6, h7, h8⟩ hl hk
  | checksum b _ => exact hstop _ ⟨h1, h2, h3, h4, h5, h6, h7, h8⟩ hl hk
  | sync _ => exact hon _ ⟨h1, h2, h3, h4, h5, h6, h7, h8⟩
  | other _ => exact hon _ ⟨h1, h2, h3, h4, h5, h6, h7, h8⟩
  | idMatch _ => exact hon _ ⟨h1, h2, h3, h4, h5, h6, h7, h8⟩
  | idMismatch _ => exact hon _ ⟨h1, h2, h3, h4, h5, h6, h7, h8⟩
  | more b _ _ => exact hon _ ⟨h1, h2, h3, h4, h5, h6, h7, h8⟩
  | last b _ _ => exact hon _ ⟨h1, h2, h3, h4, h5, h6, h7, h8⟩

/-- A move of the engine adds at most two actions, the one that is answered and the one that begins; a Flush only where
the Flush of SEND_FRAME is under way (R181, R236). -/
theorem moveEffect_progress {s t : State} (h : MoveEffect s t) :
    ∃ es, Progress s t es ∧ es.length ≤ 2 ∧ (s.ctl.curOp = .readFrame → ∀ a, Event.flush a ∉ es) := by
  have hquiet : ∀ {t : State}, (∃ es, Progress s t es ∧ Quiet es 2) →
      ∃ es, Progress s t es ∧ es.length ≤ 2 ∧ (s.ctl.curOp = .readFrame → ∀ a, Event.flush a ∉ es) :=
    fun ⟨es, hp, hq⟩ => ⟨es, hp, hq.1, fun _ => hq.2⟩
  have hnext : ∀ {u : State}, Progress s u [] → u.line = s.line → u.ctl.stepNo ≠ 0 →
      ∃ es, Progress s u.nextStep es ∧ Quiet es 2 := fun hu hl hk => by
    obtain ⟨es, hp, hq⟩ := nextStep_progress hu hl hk
    exact ⟨es, hp, hq.mono (by decide)⟩
  have hs := Progress.refl s
  cases h with
  | stay => exact hquiet ⟨_, hs, by simp [Quiet]⟩
  | built ha => exact hquiet (hnext hs rfl (stepNo_ne_zero (by simp [ha])))
  | driven l ha => exact hquiet (hnext hs rfl (stepNo_ne_zero (by simp [ha])))
  | delayed d ha =>
    exact hquiet (hnext (u := s.serveDelay) ⟨rfl, rfl, rfl, rfl, rfl, rfl, (List.append_nil _).symm, .inl rfl⟩ rfl
      (stepNo_ne_zero (s := s) (by simp [ha])))
  | taken b m l ha =>
    have hu : Progress s (((s.setTxAns l).record (.tx b .ok)).setTxi (s.ctl.txi + 1)) [.tx b .ok] :=
      ⟨rfl, rfl, rfl, rfl, rfl, rfl, rfl, .inl rfl⟩
    unfold State.txTaken
    split
    · exact hquiet ⟨_, hu, by simp [Quiet]⟩
    · obtain ⟨es, hp, hq⟩ := record_nextStep_progress hu rfl (stepNo_ne_zero (s := s) (by simp [ha]))
      exact hquiet ⟨_, hp, hq.cons (by simp)⟩
  | notTaken e b m l ha =>
    exact hquiet ⟨[.tx b (.err e)], ⟨rfl, rfl, rfl, rfl, rfl, rfl, rfl, .inl rfl⟩, by simp [Quiet]⟩
  | flushed l ha =>
    obtain ⟨ho, -⟩ := place_of_flush ha
    obtain ⟨es, hp, hq⟩ := record_nextStep_progress (s := s) (u := (s.setFlushAns l).record (.flush .ok)) (e := .flush .ok)
      ⟨rfl, rfl, rfl, rfl, rfl, rfl, rfl, .inl rfl⟩ rfl (stepNo_ne_zero (s := s) (by simp [ha]))
    exact ⟨_, hp, Nat.succ_le_succ hq.1, by simp [ho]⟩
  | notFlushed l ha =>
    obtain ⟨ho, -⟩ := place_of_flush ha
    exact ⟨[.flush .fail], ⟨rfl, rfl, rfl, rfl, rfl, rfl, rfl, .inl rfl⟩, by simp, by simp [ho]⟩
  | polled a l hp ht =>
    obtain ⟨-, -, hk, -⟩ := (polling_iff s).1 hp
    exact hquiet (pollEffect_progress (u := (s.setRxAns l).record (.rx a)) (a := a)
      ⟨rfl, rfl, rfl, rfl, rfl, rfl, rfl, .inl rfl⟩ rfl (by simp [hk]) ht)
  | parsed ha _ => exact hquiet (hnext hs rfl (stepNo_ne_zero (by simp [ha])))
  | finished _ => exact hquiet ⟨[], ⟨rfl, rfl, rfl, rfl, rfl, rfl, (List.append_nil _).symm, .inl rfl⟩, by simp [Quiet]⟩
  | selected _ =>
    obtain ⟨c, n, k, e, he⟩ := selectResult_eq s
    rw [he]
    exact hquiet ⟨[], ⟨rfl, rfl, rfl, rfl, rfl, rfl, (List.append_nil _).symm, .inl rfl⟩, by simp [Quiet]⟩

/-- What a command word does to the inputs, the frame, the line and the trace: INIT installs a profile, SEND_FRAME builds its
frame, and any other begins at most one action. -/
theorem commandEffect_progress {s t : State} {w : Word} (h : CommandEffect s w t) :
    (∃ es, Progress s t es ∧ Quiet es 1) ∨
    (decodeCmd w = .init ∧ s.staging.hasReservedSelector = false ∧
      t = (s.accept .init).installProfile.complete .ok 0 0 0) ∨
    (decodeCmd w = .sendFrame ∧ t = ((s.accept .sendFrame).setStep 1).buildFrame) := by
  have hnone : ∀ {t : State}, Progress s t [] → ∃ es, Progress s t es ∧ Quiet es 1 := fun ht => ⟨[], ht, by simp [Quiet]⟩
  have haccept : ∀ op, Progress s (s.accept op) [] := fun op =>
    ⟨rfl, rfl, rfl, rfl, rfl, rfl, (List.append_nil _).symm, .inl rfl⟩
  have hfirst : ∀ {u : State}, Progress s u [] → u.line = s.line → u.ctl.curOp ≠ .sendFrame →
      ∃ es, Progress s (u.enterStep 1) es ∧ Quiet es 1 := fun {u} hu hl ho => by
    obtain ⟨es, hp, hq⟩ := enterStep_progress u (k := 1) fun h => absurd h ho
    exact ⟨es, hu.trans hl hp, hq⟩
  cases h with
  | refused => exact .inl (hnone ⟨rfl, rfl, rfl, rfl, rfl, rfl, (List.append_nil _).symm, .inl rfl⟩)
  | initRefused => exact .inl (hnone ⟨rfl, rfl, rfl, rfl, rfl, rfl, (List.append_nil _).symm, .inl rfl⟩)
  | installed hw hr => exact .inr (.inl ⟨hw, hr, rfl⟩)
  | halted op c _ => exact .inl (hnone ⟨rfl, rfl, rfl, rfl, rfl, rfl, (List.append_nil _).symm, .inl rfl⟩)
  | sendBreak => exact .inl (hfirst (haccept .sendBreak) rfl (by simp))
  | sendWakeup _ => exact .inl (hfirst (haccept .sendWakeup) rfl (by simp))
  | sendFrame hw _ => exact .inr (.inr ⟨hw, rfl⟩)
  | readFrame _ =>
    obtain ⟨h1, h2, h3, h4, h5, h6, h7, h8⟩ := haccept .readFrame
    exact .inl (hfirst (u := (s.accept .readFrame).setTxi 0) ⟨h1, h2, h3, h4, h5, h6, h7, h8⟩ rfl (by simp))

/-! ### BUF and the parser's registers -/

/-- Parser initialisation, on the way from READ_FRAME's STEP 8 into its STEP 9 (R201, R238). -/
def ParserInitialised (s t : State) : Prop :=
  s.ctl.eng = .busy ∧ s.ctl.curOp = .readFrame ∧ s.ctl.stepNo = 8 ∧ t.ctl.stepNo = 9 ∧
    t.parser = { phase := .awaitSync, syncSeen := false, count := 0, chk := 0, rxErrV := false, rxErr := 0 }

/-- What an answer to RxPoll may do to the parser's registers (R45 to R48, R202 to R210). -/
def ParserAdvances (p q : Parser) : Prop :=
  (p.syncSeen = true → q.syncSeen = true) ∧
  ((phaseCode p.phase).toNat ≤ (phaseCode q.phase).toNat ∨ p.phase = .awaitId ∧ q.phase = .awaitSync) ∧
  (q.count = p.count ∨ p.phase = .readData ∧ q.count = p.count + 1) ∧
  (q.chk ≠ p.chk → p.phase = .awaitChecksum ∧ q.phase = .done)

theorem nextStep_parser_of_step9 {u : State} (hk : u.ctl.stepNo = 9) : u.nextStep.parser = u.parser := by
  rcases nextStep_parser u with h | ⟨-, -, h8, -⟩
  · exact h
  · simp [hk] at h8

theorem pollEffect_parser {s u t : State} (hu : u.parser = s.parser) (hk : u.ctl.stepNo = 9) (h : PollEffect s u t) :
    ParserAdvances s.parser t.parser := by
  cases h with
  | stop => rw [nextStep_parser_of_step9 hk, hu]; simp [ParserAdvances]
  | error e => rw [nextStep_parser_of_step9 (u := u.readError e) hk]; simp [ParserAdvances, hu]
  | checksum b hp => rw [nextStep_parser_of_step9 (u := u.captureChk b) hk]; simp [ParserAdvances, hu, hp, phaseCode]
  | sync hp => simp [ParserAdvances, hu, hp, phaseCode]
  | other hp => simp [ParserAdvances, hu]
  | idMatch hp => simp [ParserAdvances, hu, hp, phaseCode]
  | idMismatch hp => simp [ParserAdvances, hu, hp]
  | more b hp hc => simp [ParserAdvances, hu, hp]
  | last b hp hc => simp [ParserAdvances, hu, hp, phaseCode]

/-- A move leaves BUF and the parser's registers, but for the initialisation and the answers to RxPoll. -/
theorem moveEffect_parser {s t : State} (h : MoveEffect s t) :
    (t.buf = s.buf ∧ (t.parser = s.parser ∨ ParserInitialised s t)) ∨
    (s.polling = true ∧ ParserAdvances s.parser t.parser) := by
  have hnext : ∀ {u : State}, u.buf = s.buf → u.parser = s.parser → u.ctl.eng = s.ctl.eng → u.ctl.curOp = s.ctl.curOp →
      u.ctl.stepNo = s.ctl.stepNo → u.nextStep.buf = s.buf ∧ (u.nextStep.parser = s.parser ∨ ParserInitialised s u.nextStep) :=
    fun {u} hbuf hpar he ho hk => by
      obtain ⟨-, -, -, -, hb, -⟩ := begin_keeps (u.setStep (u.ctl.stepNo + 1)) (u.setStep (u.ctl.stepNo + 1)).action
      refine ⟨hb.trans hbuf, ?_⟩
      rcases nextStep_parser u with h | ⟨h1, h2, h3, h4, h5⟩
      · exact .inl (h.trans hpar)
      · exact .inr ⟨he ▸ h1, ho ▸ h2, hk ▸ h3, h4, h5⟩
  cases h with
  | stay => exact .inl ⟨rfl, .inl rfl⟩
  | built _ => exact .inl (hnext rfl rfl rfl rfl rfl)
  | driven _ _ => exact .inl (hnext rfl rfl rfl rfl rfl)
  | delayed _ _ => exact .inl (hnext (u := s.serveDelay) rfl rfl rfl rfl rfl)
  | taken b m l _ =>
    unfold State.txTaken
    split
    · exact .inl ⟨rfl, .inl rfl⟩
    · exact .inl (hnext (u := ((s.setTxAns l).record (.tx b .ok)).setTxi (s.ctl.txi + 1)) rfl rfl rfl rfl rfl)
  | notTaken _ _ _ _ _ => exact .inl ⟨rfl, .inl rfl⟩
  | flushed l _ => exact .inl (hnext (u := (s.setFlushAns l).record (.flush .ok)) rfl rfl rfl rfl rfl)
  | notFlushed _ _ => exact .inl ⟨rfl, .inl rfl⟩
  | polled a l hp ht =>
    obtain ⟨-, -, hk, -⟩ := (polling_iff s).1 hp
    exact .inr ⟨hp, pollEffect_parser (u := (s.setRxAns l).record (.rx a)) rfl hk ht⟩
  | parsed _ _ => exact .inl (hnext rfl rfl rfl rfl rfl)
  | finished _ => exact .inl ⟨rfl, .inl rfl⟩
  | selected _ =>
    obtain ⟨c, n, k, e, he⟩ := selectResult_eq s
    rw [he]
    exact .inl ⟨rfl, .inl rfl⟩

/-- A command word leaves BUF and the parser's registers: no first action is the parse loop. -/
theorem commandEffect_parser {s t : State} {w : Word} (h : CommandEffect s w t) : t.buf = s.buf ∧ t.parser = s.parser := by
  have hfirst : ∀ {u : State}, u.buf = s.buf → u.parser = s.parser →
      (u.enterStep 1).buf = s.buf ∧ (u.enterStep 1).parser = s.parser := fun {u} hbuf hpar => by
    obtain ⟨-, -, -, -, hb, -⟩ := begin_keeps (u.setStep 1) (u.setStep 1).action
    refine ⟨hb.trans hbuf, (begin_parser _ fun hp => ?_).trans hpar⟩
    obtain ⟨-, -, hk⟩ := step9_of_parse hp
    simp at hk
  cases h with
  | refused => exact ⟨rfl, rfl⟩
  | initRefused => exact ⟨rfl, rfl⟩
  | installed _ _ => exact ⟨rfl, rfl⟩
  | halted op c _ => exact ⟨rfl, rfl⟩
  | sendBreak => exact hfirst rfl rfl
  | sendWakeup _ => exact hfirst rfl rfl
  | sendFrame _ _ => exact hfirst rfl rfl
  | readFrame _ => exact hfirst (u := (s.accept .readFrame).setTxi 0) rfl rfl

/-- A register write reaches the staging profile and the operands alone (R33). -/
theorem storeReg_eq (s : State) (a : BitVec 6) (d : Word) : ∃ p o, s.storeReg a d = { s with staging := p, ops := o } := by
  rcases storeReg_cases s a d with ⟨-, e⟩ | ⟨-, e⟩ | ⟨-, e⟩ | ⟨-, e⟩ | ⟨-, -, e⟩ | ⟨-, e⟩ <;> exact ⟨_, _, e⟩

/-! ### The statements about every step -/

/-- Settles O52: of all effects of a step INIT's installation and reset alone write the active profile. -/
theorem activeProfileChangesAsAWhole : Obligations.ActiveProfileChangesAsAWhole := by
  intro s t hs
  cases step_effect hs with
  | moved ts d ht =>
    obtain ⟨es, hp, -⟩ := moveEffect_progress ht
    exact .inl hp.active
  | command w rest hw hi ht =>
    rcases commandEffect_progress ht with ⟨es, hp, -⟩ | ⟨hd, hr, rfl⟩ | ⟨-, rfl⟩
    · exact .inl hp.active
    · exact .inr (.inl ⟨w, rest, hw, hd, hi, hr, rfl⟩)
    · exact .inl rfl
  | stored a d rest _ _ =>
    obtain ⟨p, o, e⟩ := storeReg_eq (s.setTurns rest) a d
    rw [e]
    exact .inl rfl
  | passed ts d k => exact .inl rfl
  | elapsed ts k _ => exact .inl rfl
  | reset rest hr => exact .inr (.inr ⟨rest, hr, rfl⟩)

/-- A Line action is the last of the trace where it moved the line. -/
theorem Progress.line_event {s t : State} {es : List Event} (h : Progress s t es) (hl : t.line ≠ s.line) :
    ∃ tr, t.env.trace = tr ++ [.line t.line] := by
  rcases h.line with hl' | hl'
  · exact absurd hl' hl
  · obtain ⟨ys, hy⟩ := List.getLast?_eq_some_iff.1 hl'
    exact ⟨s.env.trace ++ ys, by rw [h.trace, hy, List.append_assoc]⟩

/-- Settles O53: an effect that writes one of the registers is the one that the statement names. -/
theorem dataRegistersHaveTheirWriters : Obligations.DataRegistersHaveTheirWriters := by
  intro s t hs
  cases step_effect hs with
  | moved ts d ht =>
    obtain ⟨es, hp, -⟩ := moveEffect_progress ht
    have hbuf : t.buf ≠ s.buf → s.polling = true := fun hb => by
      rcases moveEffect_parser ht with ⟨h, -⟩ | ⟨h, -⟩
      · exact absurd h hb
      · exact (polling_iff s).2 ((polling_iff _).1 h)
    exact ⟨hp.cfg, .inr ⟨fun h => absurd h (by simp [hp.ops, hp.staging]), hbuf,
      fun h => absurd h (by simp [hp.frame, hp.frameLen]), hp.line_event⟩⟩
  | command w rest hw hi ht =>
    have hbuf : t.buf ≠ s.buf → s.polling = true := fun hb => absurd (commandEffect_parser ht).1 hb
    rcases commandEffect_progress ht with ⟨es, hp, -⟩ | ⟨-, -, rfl⟩ | ⟨hd, rfl⟩
    · exact ⟨hp.cfg, .inr ⟨fun h => absurd h (by simp [hp.ops, hp.staging]), hbuf,
        fun h => absurd h (by simp [hp.frame, hp.frameLen]), hp.line_event⟩⟩
    · exact ⟨rfl, .inr ⟨fun h => absurd h (by simp), hbuf, fun h => absurd h (by simp), fun h => absurd rfl h⟩⟩
    · exact ⟨rfl, .inr ⟨fun h => absurd h (by simp), hbuf, fun _ => ⟨w, rest, hw, hd⟩, fun h => absurd rfl h⟩⟩
  | stored a d rest hw hi =>
    obtain ⟨p, o, e⟩ := storeReg_eq (s.setTurns rest) a d
    rw [e]
    exact ⟨rfl, .inr ⟨fun _ => ⟨hi, a, d, rest, hw⟩, fun h => absurd rfl h, fun h => absurd h (by simp),
      fun h => absurd rfl h⟩⟩
  | passed ts d k =>
    exact ⟨rfl, .inr ⟨fun h => absurd h (by simp), fun h => absurd rfl h, fun h => absurd h (by simp), fun h => absurd rfl h⟩⟩
  | elapsed ts k _ =>
    exact ⟨rfl, .inr ⟨fun h => absurd h (by simp), fun h => absurd rfl h, fun h => absurd h (by simp), fun h => absurd rfl h⟩⟩
  | reset rest hr => exact ⟨rfl, .inl ⟨rest, hr⟩⟩

/-- Settles O54: moves by moveEffect_parser, and no other effect but reset writes a parser register. -/
theorem parserRegistersHaveTheirWriters : Obligations.ParserRegistersHaveTheirWriters := by
  intro s t hs
  cases step_effect hs with
  | moved ts d ht =>
    rcases moveEffect_parser ht with ⟨-, h | h⟩ | ⟨hp, h⟩
    · exact .inl h
    · exact .inr (.inr (.inl h))
    · exact .inr (.inr (.inr ⟨(polling_iff s).2 ((polling_iff _).1 hp), h⟩))
  | command w rest _ _ ht => exact .inl (commandEffect_parser ht).2
  | stored a d rest _ _ =>
    obtain ⟨p, o, e⟩ := storeReg_eq (s.setTurns rest) a d
    rw [e]
    exact .inl rfl
  | passed ts d k => exact .inl rfl
  | elapsed ts k _ => exact .inl rfl
  | reset rest hr => exact .inr (.inl ⟨rest, hr⟩)

/-- Settles O55: a move adds what moveEffect_progress says, a command word at most its first action, anything else nothing. -/
theorem traceOnlyGrows : Obligations.TraceOnlyGrows := by
  intro s t hs
  have hnone : ∀ {t : State}, t.env.trace = s.env.trace → ∃ es, t.env.trace = s.env.trace ++ es ∧ es.length ≤ 2 ∧
      (s.ctl.curOp = .readFrame → ∀ a, Event.flush a ∉ es) := fun h => ⟨[], by simp [h], by simp, by simp⟩
  cases step_effect hs with
  | moved ts d ht =>
    obtain ⟨es, hp, hes⟩ := moveEffect_progress ht
    exact ⟨es, hp.trace, hes⟩
  | command w rest _ _ ht =>
    rcases commandEffect_progress ht with ⟨es, hp, hq⟩ | ⟨-, -, rfl⟩ | ⟨-, rfl⟩
    · exact ⟨es, hp.trace, hq.1.trans (by decide), fun _ => hq.2⟩
    · exact hnone rfl
    · exact hnone rfl
  | stored a d rest _ _ =>
    obtain ⟨p, o, e⟩ := storeReg_eq (s.setTurns rest) a d
    rw [e]
    exact hnone rfl
  | passed ts d k => exact hnone rfl
  | elapsed ts k _ => exact hnone rfl
  | reset rest _ => exact hnone rfl

end Sys2Proof.Machine
end

section
/-! PROOFS. Single steps: what is fetched is run, an action without its answer waits, answers out of place are refused, a delay
is served in full, a HALTED engine rests, and no state that keeps the invariant stops otherwise. -/

namespace Sys2Proof.Machine

/-! ### Fetching (30_encoding.md sections 2 and 3) -/

theorem not_halted_of_action {s : State} (h : s.action ≠ .none) : s.ctl.eng ≠ .halted := by
  simp [busy_of_action h]

/-- With no turn pending the engine takes the next answer on the receive port. -/
theorem step_poll {s : State} {w : RxWord} {rest : List RxWord} {i : Instr} (ht : s.env.turns = []) (hp : s.polling = true)
    (hn : s.rxNext = some (w, rest)) (hd : decodeRx s.view w = .ok i) : step s = exec i (s.setRxAns rest) := by
  rw [step_of_no_turn ht (by simp [((polling_iff s).1 hp).1])]
  exact engineMove_rx hp hn hd

/-- Settles O5, one port at a time. -/
theorem stepRunsTheFetchedInstruction : Obligations.StepRunsTheFetchedInstruction := by
  intro s
  refine ⟨fun w rest ht => ?_, fun ht b more w rest ha hw => ?_, fun ht a rest ha hw => ?_, fun ht w rest i hp hw hd => ?_,
    fun ht w rest i hp hw hl hd => ?_⟩
  · rw [step_of_turn ht]
    rfl
  · rw [step_of_no_turn ht (not_halted_of_action (by simp [ha]))]
    exact engineMove_tx ha hw
  · rw [step_of_no_turn ht (not_halted_of_action (by simp [ha]))]
    exact engineMove_flush ha hw
  · exact step_poll ht hp (rxNext_of_cons hw) hd
  · exact step_poll ht hp (rxNext_of_loop hw hl) hd

/-- Settles O56: the move looks at its port, finds no answer and leaves the state. -/
theorem unansweredActionWaits : Obligations.UnansweredActionWaits := by
  intro s ht h
  rcases h with ⟨⟨b, more, ha⟩, hw⟩ | ⟨ha, hw⟩ | ⟨hp, hw, hl⟩
  · rw [step_of_no_turn ht (not_halted_of_action (by simp [ha]))]
    simp [engineMove, busy_of_action (s := s) (by simp [ha]), ha, hw]
  · rw [step_of_no_turn ht (not_halted_of_action (by simp [ha]))]
    simp [engineMove, busy_of_action (s := s) (by simp [ha]), ha, hw]
  · obtain ⟨ha, hd⟩ : s.action = .parse ∧ s.parser.phase ≠ .done := by simpa [State.polling] using hp
    rw [step_of_no_turn ht (not_halted_of_action (by simp [ha]))]
    simp [engineMove, busy_of_action (s := s) (by simp [ha]), ha, hd, (rxNext_none_iff s).2 ⟨hw, hl⟩]

/-! ### Answers out of place (log entry 8) -/

theorem onPoll_of_not_polling {i : Instr} {a : RxAnswer} {f : State → State} {s : State} (h : s.polling = false) :
    onPoll i a f s = .refused .answerUnasked := by
  simp [onPoll, h]

theorem onPoll_of_guard_false {i : Instr} {a : RxAnswer} {f : State → State} {s : State} (hp : s.polling = true)
    (h : i.wellFormed = false ∨ i.guard s.view = false) : onPoll i a f s = .refused .guardNotMet := by
  rcases h with h | h <;> simp [onPoll, hp, h]

theorem onTx_of_no_tx {f : Byte → Bool → State → State} {s : State} (h : ∀ b more, s.action ≠ .tx b more) :
    onTx f s = .refused .answerUnasked := by
  unfold onTx
  split
  · rename_i b more ha; exact absurd ha (h b more)
  · rfl

theorem onFlush_of_no_flush {f : State → State} {s : State} (h : s.action ≠ .flush) :
    onFlush f s = .refused .answerUnasked := by
  unfold onFlush
  split
  · rename_i ha; exact absurd ha h
  · rfl

/-- The rows of a port are carried out through the port's own operation, those of RxPoll under their own guards. -/
theorem exec_rx_eq_onPoll {i : Instr} {w : RxWord} (h : encode i = .rx w) : ∃ a f, exec i = onPoll i a f := by
  cases i with
  | rxWouldBlock => exact ⟨_, _, rfl⟩
  | rxByteAwaitSyncSync b => exact ⟨_, _, rfl⟩
  | rxByteAwaitSyncOther b => exact ⟨_, _, rfl⟩
  | rxByteAwaitIdMatch b => exact ⟨_, _, rfl⟩
  | rxByteAwaitIdMismatch b => exact ⟨_, _, rfl⟩
  | rxByteReadDataMore b => exact ⟨_, _, rfl⟩
  | rxByteReadDataLast b => exact ⟨.byte b, fun s => (s.copyByte b).setPhase .awaitChecksum, rfl⟩
  | rxByteAwaitChecksum b => exact ⟨.byte b, fun s => (s.captureChk b).nextStep, rfl⟩
  | rxError e => exact ⟨.err e, fun s => (s.readError e).nextStep, rfl⟩
  | rxReserved3 e => exact ⟨.err e, fun s => (s.readError e).nextStep, rfl⟩
  | _ => cases h

theorem exec_tx_eq_onTx {i : Instr} {w : TxWord} (h : encode i = .tx w) : ∃ f, exec i = onTx f := by
  cases i with
  | txOk => exact ⟨_, rfl⟩
  | txErr e => exact ⟨_, rfl⟩
  | _ => cases h

theorem exec_flush_eq_onFlush {i : Instr} {a : BitVec 1} (h : encode i = .flush a) : ∃ f, exec i = onFlush f := by
  cases i with
  | flushOk => exact ⟨_, rfl⟩
  | flushFail => exact ⟨_, rfl⟩
  | _ => cases h

/-- Settles O42: every row of a port is carried out through the port's own operation, which refuses. -/
theorem answersOutOfPlaceAreRefused : Obligations.AnswersOutOfPlaceAreRefused := by
  intro s
  refine ⟨fun hp i ⟨w, he⟩ => ?_, fun hp i ⟨w, he⟩ hg => ?_, fun ha i ⟨w, he⟩ => ?_, fun ha i ⟨a, he⟩ => ?_⟩
  · obtain ⟨a, f, hx⟩ := exec_rx_eq_onPoll he
    rw [hx]
    exact onPoll_of_not_polling hp
  · obtain ⟨a, f, hx⟩ := exec_rx_eq_onPoll he
    rw [hx]
    exact onPoll_of_guard_false hp hg
  · obtain ⟨f, hx⟩ := exec_tx_eq_onTx he
    rw [hx]
    exact onTx_of_no_tx ha
  · obtain ⟨f, hx⟩ := exec_flush_eq_onFlush he
    rw [hx]
    exact onFlush_of_no_flush ha

/-! ### A delay is never cut short (41_pulse_sequencer.md section 2) -/

/-- Time is counted by delays and by turns, not by the beginning of an action. -/
theorem begin_clock (s : State) (a : Action) : (s.begin a).env.clock = s.env.clock := by
  cases a with
  | delay n => cases n <;> rfl
  | select =>
    obtain ⟨c, n, k, e, h⟩ := selectResult_eq s
    rw [State.begin, h]
    rfl
  | _ => rfl

/-- While a delay is under way a move ends it after all the periods it takes, or there is no move. -/
theorem moveEffect_of_delay {s t : State} {d : Option Nat} (ha : s.action = .delay d) (h : MoveEffect s t) :
    t = s ∨ t.env.clock = s.env.clock + periodsFor s.cfg s.ctl.dly.toNat := by
  cases h with
  | stay => exact .inl rfl
  | delayed d' _ => exact .inr (begin_clock _ _)
  | polled a l hp _ => simp [State.polling, ha] at hp
  | built hb => simp [ha] at hb
  | driven l hb => simp [ha] at hb
  | taken b m l hb => simp [ha] at hb
  | notTaken e b m l hb => simp [ha] at hb
  | flushed l hb => simp [ha] at hb
  | notFlushed l hb => simp [ha] at hb
  | parsed hb _ => simp [ha] at hb
  | finished hb => simp [ha] at hb
  | selected hb => simp [ha] at hb

/-- Settles O23: the engine's own move serves all of the delay; clock periods take their nanoseconds off DLY; what is for an
IDLE engine alone does not happen. -/
theorem delayIsServedInFull : Obligations.DelayIsServedInFull := by
  intro s t d ha _ hr hs
  have hb : s.ctl.eng = .busy := busy_of_action (by simp [ha])
  cases step_effect hs with
  | moved ts r ht =>
    rcases moveEffect_of_delay (s := (s.setTurns ts).setRdata r) ((action_of_env s _).trans ha) ht with rfl | h
    · exact .inl ⟨rfl, rfl, Nat.le_refl _, Nat.le_add_right _ _⟩
    · exact .inr h
  | command w rest _ hi _ => simp [hb] at hi
  | stored a d rest _ hi => simp [hb] at hi
  | passed ts r k => exact .inl ⟨rfl, rfl, Nat.le_add_right _ _, Nat.le_add_right _ _⟩
  | elapsed ts k _ =>
    have hlt := s.ctl.dly.isLt
    refine .inl ⟨rfl, rfl, Nat.le_add_right _ _, ?_⟩
    simp only [State.setTurns_ctl, State.elapse_ctl, State.setTurns_env, State.elapse_env, Nat.add_sub_cancel_left,
      BitVec.toNat_ofNat]
    omega
  | reset rest ht => exact absurd ht (hr rest)

/-! ### HALTED (60_exceptions.md section 2) -/

/-- Settles O9, turn by turn: writes are ignored, reads and time touch the environment's record, the engine does not move. -/
theorem onlyResetLeavesHalted : Obligations.OnlyResetLeavesHalted := by
  intro s hh
  have hidle : s.ctl.eng ≠ .idle := by simp [hh]
  have hbusy : s.ctl.eng ≠ .busy := by simp [hh]
  refine ⟨fun ht => by simp [step, ht, ownStep, hh], fun t rest ht hr => ?_⟩
  rw [step_of_turn ht]
  cases t with
  | write a d =>
    exact ⟨_, hostWrite_of_not_idle (s := s.setTurns rest) hidle a d, rfl, rfl, rfl, rfl, rfl, rfl, rfl⟩
  | read a => exact ⟨_, rfl, rfl, rfl, rfl, rfl, rfl, rfl, rfl⟩
  | wait =>
    have hw : turnStep .wait rest s = .next ((s.hostRead statusReg).setTurns rest) := by
      simp [turnStep, waitTurn, State.isHalted, hh]
    exact ⟨_, hw, rfl, rfl, rfl, rfl, rfl, rfl, rfl⟩
  | reset => exact absurd rfl hr
  | engine => exact ⟨_, engineMove_of_not_busy (s := s.setTurns rest) hbusy, rfl, rfl, rfl, rfl, rfl, rfl, rfl⟩
  | ticks k =>
    have hw : turnStep (.ticks k) rest s = .next ((s.passTime k).setTurns rest) := by
      simp [turnStep, ticksTurn, State.instant, State.delaying, action_of_not_busy hbusy]
    exact ⟨_, hw, rfl, rfl, rfl, rfl, rfl, rfl, rfl⟩

/-! ### Progress under the invariant -/

/-- A move of the engine goes on: a BUSY engine has an action, and the answer it takes is a row whose guard holds (R48 (d)). -/
theorem engineMove_next {s : State} (h : StateInv s) : ∃ t, engineMove s = .next t := by
  by_cases hb : s.ctl.eng = .busy
  swap
  · exact ⟨s, engineMove_of_not_busy hb⟩
  cases ha : s.action with
  | none => exact absurd ha (action_of_stepLegal hb (h.2.1 hb).1).1
  | build => exact ⟨_, engineMove_build ha⟩
  | line l => exact ⟨_, engineMove_line ha⟩
  | delay d => exact ⟨_, engineMove_delay ha⟩
  | tx b m =>
    cases hw : s.env.txAns with
    | nil => exact ⟨s, by simp [engineMove, hb, ha, hw]⟩
    | cons w rest =>
      exact ⟨_, (engineMove_tx ha hw).trans (exec_decodeTx (s := s.setTxAns rest) ((action_of_env s _).trans ha) w)⟩
  | flush =>
    cases hw : s.env.flushAns with
    | nil => exact ⟨s, by simp [engineMove, hb, ha, hw]⟩
    | cons a rest =>
      exact ⟨_, (engineMove_flush ha hw).trans (exec_decodeFlush (s := s.setFlushAns rest) ((action_of_env s _).trans ha) a)⟩
  | parse =>
    obtain ⟨-, ho, hk⟩ := step9_of_parse ha
    obtain ⟨hrd, -, hd⟩ := h.2.2.2.2.1 hb ho (by rw [hk]; decide)
    have hp : s.polling = true := (polling_iff s).2 ⟨hb, ho, hk, hd hk⟩
    cases hn : s.rxNext with
    | none => exact ⟨s, by simp [engineMove, hb, ha, hd hk, hn]⟩
    | some p =>
      obtain ⟨w, rest⟩ := p
      obtain ⟨i, hi⟩ := decodeRx_total (v := s.view) w (hd hk) hrd
      have hp' : (s.setRxAns rest).polling = true := (polling_iff _).2 ((polling_iff s).1 hp)
      obtain ⟨a, t, he, -⟩ := exec_decodeRx hp' hi
      exact ⟨t, (engineMove_rx hp hn hi).trans he⟩
  | finish => exact ⟨s.begin .finish, by simp only [engineMove, hb, ha]⟩
  | select => exact ⟨s.begin .select, by simp only [engineMove, hb, ha]⟩

/-- A host write answers a next state in every state (R33, R105). -/
theorem hostWrite_next (a : BitVec 6) (d : Word) (s : State) : ∃ t, hostWrite a d s = .next t := by
  by_cases ha : a = cmdReg
  · rcases exec_cmd_cases s d with ⟨-, h⟩ | ⟨-, t, h, -⟩ <;> exact ⟨_, by rw [hostWrite, if_pos ha, h]⟩
  · exact ⟨_, by rw [hostWrite, if_neg ha]⟩

/-- Settles O51: the turns that are no move of the engine answer a next state in any state, the others by engineMove_next. -/
theorem stepNeverRefuses : Obligations.StepNeverRefuses := by
  intro s h
  have henv : ∀ e, StateInv { s with env := e } := fun e => (stateInv_of_env s e).2 h
  cases ht : s.env.turns with
  | nil =>
    by_cases hh : s.ctl.eng = .halted
    · exact .inr ⟨hh, rfl, by simp [step, ht, ownStep, hh]⟩
    · rw [step_of_no_turn ht hh]
      exact .inl (engineMove_next h)
  | cons t rest =>
    left
    rw [step_of_turn ht]
    cases t with
    | write a d => exact hostWrite_next a d _
    | read a => exact ⟨_, rfl⟩
    | wait =>
      simp only [turnStep, waitTurn]
      split
      · exact ⟨_, rfl⟩
      · exact engineMove_next (s := s.hostRead statusReg) (henv _)
    | reset => exact ⟨_, rfl⟩
    | engine => exact engineMove_next (s := s.setTurns rest) (henv _)
    | ticks k =>
      simp only [turnStep, ticksTurn]
      split
      · exact engineMove_next h
      · split
        · exact ⟨_, rfl⟩
        · split <;> exact ⟨_, rfl⟩

end Sys2Proof.Machine
end

section
/-! PROOFS. The register file read and written (10_state.md sections 2 and 10), reset (70_reset_and_hazards.md section 1), and
the host's programs (30_encoding.md section 9). -/

namespace Sys2Proof.Machine

/-! ### The register map (R56) -/

theorem byteWord_of_lt {n i : Nat} (v : Vector Byte n) (h : i < n) : byteWord v i = v[i].setWidth 32 := by
  simp [byteWord, h]

theorem readReg_opData (s : State) (i : Fin 8) : s.readReg (BitVec.ofNat 6 (0x10 + i.val)) = s.ops.data[i].setWidth 32 := by
  refine Eq.trans ?_ (byteWord_of_lt s.ops.data i.isLt)
  fin_cases i <;> rfl

theorem readReg_buf (s : State) (i : Fin 8) : s.readReg (BitVec.ofNat 6 (0x18 + i.val)) = s.buf[i].setWidth 32 := by
  refine Eq.trans ?_ (byteWord_of_lt s.buf i.isLt)
  fin_cases i <;> rfl

theorem readReg_frame (s : State) (i : Fin 11) : s.readReg (BitVec.ofNat 6 (0x20 + i.val)) = s.frame[i].setWidth 32 := by
  refine Eq.trans ?_ (byteWord_of_lt s.frame i.isLt)
  fin_cases i <;> rfl

theorem readReg_reserved (s : State) {a : BitVec 6} (h : 0x33 ≤ a.toNat) : s.readReg a = 0 := by
  have hl := a.isLt
  simp only [State.readReg]
  generalize a.toNat = n at *
  interval_cases n <;> rfl

/-- Settles O12: the arrays and the reserved numbers by their own lemmas, every single register by evaluating its number. -/
theorem registerMapReads : Obligations.RegisterMapReads := by
  intro s
  have hzero : ∀ i : Fin 13, s.readReg (BitVec.ofNat 6 (0x33 + i.val)) = 0 := fun i =>
    readReg_reserved s (by have := i.isLt; simp only [BitVec.toNat_ofNat]; omega)
  refine ⟨rfl, rfl, rfl, rfl, rfl, rfl, rfl, rfl, rfl, rfl, rfl, rfl, rfl, rfl, rfl, rfl, readReg_opData s, readReg_buf s,
    readReg_frame s, rfl, rfl, rfl, rfl, rfl, rfl, rfl, rfl, hzero⟩

/-! ### A write and the reads after it (R32, R33) -/

/-- A read sees of the staging profile and of the operands the register of its own number only. -/
theorem readReg_congr (s : State) (p : Profile) (o : Operands) (b : BitVec 6)
    (hp : b.toNat < 8 → p.word b.toNat = s.staging.word b.toNat) (hid : b = 8 → o.id = s.ops.id)
    (hlen : b = 9 → o.len = s.ops.len) (hchk : b = 10 → o.chk = s.ops.chk)
    (hdata : 16 ≤ b.toNat → b.toNat < 24 → o.data[b.toNat - 16]? = s.ops.data[b.toNat - 16]?) :
    ({ s with staging := p, ops := o } : State).readReg b = s.readReg b := by
  rcases Nat.lt_or_ge b.toNat 8 with h8 | h8
  · rw [readReg_staging _ h8, readReg_staging _ h8]
    exact hp h8
  by_cases hd : 16 ≤ b.toNat ∧ b.toNat < 24
  · rw [readReg_data _ hd.1 hd.2, readReg_data _ hd.1 hd.2]
    exact congrArg (fun x : Option Byte => (x.getD 0).setWidth 32) (hdata hd.1 hd.2)
  by_cases h11 : 11 ≤ b.toNat
  · exact readReg_readOnly s (by omega) p o
  · obtain rfl | rfl | rfl : b = 8 ∨ b = 9 ∨ b = 10 := by bv_omega
    · exact congrArg (BitVec.setWidth 32) (hid rfl)
    · exact congrArg (BitVec.setWidth 32) (hlen rfl)
    · exact congrArg (BitVec.setWidth 32) (hchk rfl)

theorem readReg_storeReg_other (s : State) {a b : BitVec 6} (d : Word) (h : b ≠ a) :
    (s.storeReg a d).readReg b = s.readReg b := by
  have hn : b.toNat ≠ a.toNat := fun e => h (BitVec.eq_of_toNat_eq e)
  rcases storeReg_cases s a d with ⟨-, e⟩ | ⟨rfl, e⟩ | ⟨rfl, e⟩ | ⟨rfl, e⟩ | ⟨h1, h2, e⟩ | ⟨-, e⟩ <;> rw [e]
  · exact readReg_congr s _ s.ops b (fun _ => word_setWord_other _ _ hn) (fun _ => rfl) (fun _ => rfl) (fun _ => rfl)
      fun _ _ => rfl
  · exact readReg_congr s s.staging _ b (fun _ => rfl) (fun hb => absurd hb h) (fun _ => rfl) (fun _ => rfl) fun _ _ => rfl
  · exact readReg_congr s s.staging _ b (fun _ => rfl) (fun _ => rfl) (fun hb => absurd hb h) (fun _ => rfl) fun _ _ => rfl
  · exact readReg_congr s s.staging _ b (fun _ => rfl) (fun _ => rfl) (fun _ => rfl) (fun hb => absurd hb h) fun _ _ => rfl
  · refine readReg_congr s s.staging _ b (fun _ => rfl) (fun _ => rfl) (fun _ => rfl) (fun _ => rfl) fun h3 _ => ?_
    exact Vector.getElem?_setIfInBounds_ne (by omega)

theorem readReg_storeReg_data (s : State) {a : BitVec 6} (d : Word) (h1 : 16 ≤ a.toNat) (h2 : a.toNat ≤ 23) :
    (s.storeReg a d).readReg a = (d.setWidth 8).setWidth 32 := by
  have hs : s.storeReg a d = { s with
      ops := { s.ops with data := s.ops.data.setIfInBounds (a.toNat - 16) (d.setWidth 8) } } := by
    simp only [State.storeReg]
    repeat rw [if_neg (by omega)]
    rw [if_pos (by omega)]
  rw [hs, readReg_data _ h1 (by omega), byteWord, Vector.getElem?_setIfInBounds_self_of_lt (by omega)]
  rfl

/-- Settles O11: the fields by the masks of their widths, the other numbers by readReg_storeReg_other. -/
theorem registerWriteThenRead : Obligations.RegisterWriteThenRead := by
  intro s a b d
  refine ⟨fun h => ?_, fun h => ?_, fun h => ?_, fun h => ?_, fun h => ?_, readReg_storeReg_other s d,
    fun h => ⟨readReg_reserved s h, storeReg_of_readOnly s (by omega) d⟩⟩
  · rw [and_3]
    rcases h with rfl | rfl | rfl | rfl <;> rfl
  · rw [h, ← brk_word_of_write]
    rfl
  · rcases h with rfl | rfl | rfl <;> rfl
  · rw [and_ff]
    rcases h with rfl | rfl | ⟨h1, h2⟩
    · rfl
    · rfl
    · exact readReg_storeReg_data s d h1 h2
  · rw [h, and_f]
    rfl

/-! ### Reset -/

/-- Settles O7, by evaluation: the reset state is written out in the model. -/
theorem resetRegisterValues : Obligations.ResetRegisterValues := by
  refine ⟨rfl, rfl, rfl, rfl, rfl, by decide, rfl, rfl, by decide, by decide, rfl, rfl, rfl, fun _ => rfl, rfl⟩

/-- Settles O8: resetEngine is resetWith beside the old environment. -/
theorem resetFromAnyState : Obligations.ResetFromAnyState := by
  intro s rest ht
  rw [step_of_turn ht]
  rfl

/-! ### Commands that end at once -/

/-- Settles O26, by the rule of every CMD word outside IDLE. -/
theorem commandsAreIgnoredOutsideIdle : Obligations.CommandsAreIgnoredOutsideIdle :=
  fun _ w h => exec_decodeCmd_of_not_idle h w

theorem hasReservedSelector_iff (p : Profile) :
    p.hasReservedSelector = true ↔ p.wakeSel = 3 ∨ p.rtoSel = 3 ∨ p.ifsSel = 3 := by
  simp [Profile.hasReservedSelector, or_assoc]

/-- An IDLE engine that is accepted and ended at once is IDLE again. -/
theorem accept_complete_eq {s : State} (hi : s.ctl.eng = .idle) (op : CurOp) (c : RCode) :
    (s.accept op).complete c 0 0 0 = { s with
      ctl := { s.ctl with curOp := op, stepNo := 0 }
      res := { s.res with done := true, code := c, count := 0, chk := 0, err := 0 } } := by
  simp only [State.complete, State.accept, State.dropResult, ← hi]

/-- Settles O24: both outcomes of INIT, with the acceptance and the ending written out. -/
theorem initInstallsOrIsRefused : Obligations.InitInstallsOrIsRefused := by
  intro s hi
  refine ⟨fun h1 h2 h3 => ?_, fun h => ?_⟩
  · have hr : s.staging.hasReservedSelector = false := by
      rw [← Bool.not_eq_true, hasReservedSelector_iff]
      exact not_or.2 ⟨h1, not_or.2 ⟨h2, h3⟩⟩
    have hc := accept_complete_eq (s := { s with active := s.staging }) hi .init .ok
    rw [exec_init_of_legal hi hr]
    exact congrArg _ hc
  · rw [exec_init_of_reserved hi ((hasReservedSelector_iff _).2 h), accept_complete_eq hi]

/-- A refusal writes the result and leaves the engine IDLE. -/
theorem refuse_eq {s : State} (hi : s.ctl.eng = .idle) :
    s.refuse = { s with res := { s.res with done := true, code := .refused, count := 0, chk := 0, err := 0 } } := by
  simp only [State.refuse, State.complete, State.dropResult, ← hi]

/-- Settles O25: the three reserved opcodes are the same refusal. -/
theorem reservedOpcodesAreRefused : Obligations.ReservedOpcodesAreRefused := by
  intro s hi i h
  refine ⟨?_, rfl⟩
  rw [← refuse_eq hi]
  rcases h with rfl | rfl | rfl <;> exact onIdle_of_idle hi

/-- Settles O58, by the two branches of the WAIT turn. -/
theorem waitEndsOnDoneOrFatal : Obligations.WaitEndsOnDoneOrFatal := by
  intro s rest ht
  rw [step_of_turn ht]
  refine ⟨fun h => ?_, fun hd hh => ?_⟩
  · have hw : (s.res.done || s.isHalted) = true := by simpa [State.isHalted] using h
    rw [turnStep, waitTurn, if_pos hw]
    rfl
  · have hw : ¬(s.res.done || s.isHalted) = true := by simp [State.isHalted, hd, hh]
    rw [turnStep, waitTurn, if_neg hw]
    rfl

/-! ### SET_PROFILE (R124) -/

/-- The writes of the profile p to the registers ks of the staging profile. -/
def profileWrites (p : Profile) (ks : List Nat) : List Turn := ks.map fun k => .write (BitVec.ofNat 6 k) (p.word k)

/-- The staging profile q after those writes. -/
def profileWritten (p q : Profile) (ks : List Nat) : Profile := ks.foldl (fun q k => q.setWord k (p.word k)) q

theorem setProfile_eq (p : Profile) : setProfile p = profileWrites p (List.range 8) ++ command 1 := rfl

theorem profileWritten_all (p q : Profile) : profileWritten p q (List.range 8) = p := setWord_words q p

theorem storeReg_staging (s : State) {k : Nat} (h : k < 8) (d : Word) :
    s.storeReg (BitVec.ofNat 6 k) d = { s with staging := s.staging.setWord k d } := by
  interval_cases k <;> rfl

/-- Each write is one step, and reaches the staging profile alone. -/
theorem run_profileWrites {p : Profile} {ks : List Nat} {s : State} {rest : List Turn} (hi : s.ctl.eng = .idle)
    (hks : ∀ k ∈ ks, k < 8) (ht : s.env.turns = profileWrites p ks ++ rest) :
    Host.Core.run Sys2Proof.core ks.length s = .next { s with
      staging := profileWritten p s.staging ks, env := { s.env with turns := rest } } := by
  induction ks generalizing s with
  | nil =>
    obtain rfl : s.env.turns = rest := ht
    rfl
  | cons k ks ih =>
    obtain ⟨hk, hks⟩ := List.forall_mem_cons.1 hks
    have hstep := step_write (rest := profileWrites p ks ++ rest) ht hi (by interval_cases k <;> decide)
    rw [storeReg_staging _ hk] at hstep
    rw [List.length_cons, run_succ _ hstep]
    exact ih (s := { s with staging := s.staging.setWord k (p.word k)
                            env := { s.env with turns := profileWrites p ks ++ rest } }) hi hks rfl

/-- `INIT; WAIT` from IDLE: two steps, the second of which finds the result (R123, R152). -/
theorem run_init_wait {s : State} {rest : List Turn} (hi : s.ctl.eng = .idle) (ht : s.env.turns = command 1 ++ rest) :
    ∃ u, Host.Core.run Sys2Proof.core 2 s = .next u ∧ u.env.turns = rest ∧ u.staging = s.staging ∧ u.ctl.eng = .idle ∧
      u.res.done = true ∧ u.ops = s.ops ∧ u.env.trace = s.env.trace ∧
      (s.staging.hasReservedSelector = false → u.active = s.staging ∧ u.res.code = .ok) ∧
      (s.staging.hasReservedSelector = true → u.active = s.active ∧ u.res.code = .refused) := by
  have hcmd : step s = exec .init (s.setTurns (.wait :: rest)) := (stepRunsTheFetchedInstruction s).1 1 (.wait :: rest) ht
  have hwait : ∀ u : State, u.env.turns = .wait :: rest → u.res.done = true →
      step u = .next { u with env := { u.env with turns := rest, rdata := u.statusWord } } :=
    fun u hu hd => (waitEndsOnDoneOrFatal u rest hu).1 (.inl hd)
  cases hr : s.staging.hasReservedSelector
  · rw [exec_init_of_legal (s := s.setTurns (.wait :: rest)) hi hr] at hcmd
    have hrun := (run_succ 1 hcmd).trans (run_succ 0 (hwait _ rfl rfl))
    exact ⟨_, hrun, rfl, rfl, rfl, rfl, rfl, rfl, fun _ => ⟨rfl, rfl⟩, by simp⟩
  · rw [exec_init_of_reserved (s := s.setTurns (.wait :: rest)) hi hr] at hcmd
    have hrun := (run_succ 1 hcmd).trans (run_succ 0 (hwait _ rfl rfl))
    exact ⟨_, hrun, rfl, rfl, rfl, rfl, rfl, rfl, by simp, fun _ => ⟨rfl, rfl⟩⟩

/-- Settles O15: the eight writes leave the profile in staging, and INIT does the rest. -/
theorem setProfileInstalls : Obligations.SetProfileInstalls := by
  intro s p rest hi ht
  rw [setProfile_eq, List.append_assoc] at ht
  have hw := run_profileWrites (rest := command 1 ++ rest) hi (fun k hk => List.mem_range.1 hk) ht
  rw [profileWritten_all, List.length_range] at hw
  obtain ⟨u, hu, h⟩ := run_init_wait (rest := rest)
    (s := { s with staging := p, env := { s.env with turns := command 1 ++ rest } }) hi rfl
  exact ⟨u, (run_add 8 2 hw).trans hu, h⟩

/-! ### The writes of the frame calls (R123) -/

theorem storeReg_id (s : State) (id : Byte) :
    s.storeReg 0x08 (id.setWidth 32) = { s with ops := { s.ops with id := id } } := by
  have h : (id.setWidth 32).setWidth 8 = id := by simp
  rw [← h]
  simp [State.storeReg]

theorem storeReg_chk (s : State) (chk : Byte) :
    s.storeReg 0x0A (chk.setWidth 32) = { s with ops := { s.ops with chk := chk } } := by
  have h : (chk.setWidth 32).setWidth 8 = chk := by simp
  rw [← h]
  simp [State.storeReg]

/-- OP_LEN keeps the low four bits of the length (R32). -/
theorem storeReg_len (s : State) (n : Nat) :
    s.storeReg 0x09 (BitVec.ofNat 32 n) = { s with ops := { s.ops with len := BitVec.ofNat 4 n } } := by
  have h : (BitVec.ofNat 32 n).setWidth 4 = BitVec.ofNat 4 n := BitVec.setWidth_ofNat_of_le (by decide) n
  rw [← h]
  rfl

/-- The two writes that both frame calls begin with. -/
theorem run_idLen {s : State} {id : Byte} {n : Nat} {rest : List Turn} (hi : s.ctl.eng = .idle)
    (ht : s.env.turns = .write 0x08 (id.setWidth 32) :: .write 0x09 (BitVec.ofNat 32 n) :: rest) :
    Host.Core.run Sys2Proof.core 2 s = .next { s with
      ops := { s.ops with id := id, len := BitVec.ofNat 4 n }, env := { s.env with turns := rest } } := by
  have h1 := step_write ht hi (by decide)
  rw [storeReg_id] at h1
  rw [run_succ 1 h1]
  have h2 := step_write (s := { s with
    ops := { s.ops with id := id }
    env := { s.env with turns := .write 0x09 (BitVec.ofNat 32 n) :: rest } }) rfl hi (by decide)
  rw [storeReg_len] at h2
  exact run_succ 0 h2

/-- A buffer that holds the list l from position 0 and is w beyond it. -/
theorem toList_of_get {n : Nat} {v w : Vector Byte n} {l : List Byte}
    (hv : ∀ j : Nat, v[j]? = if j < l.length then l[j]? else w[j]?) :
    v.toList.take l.length = l ∧ v.toList.drop l.length = w.toList.drop l.length := by
  refine ⟨List.ext_getElem? fun j => ?_, List.ext_getElem? fun j => ?_⟩
  · rw [List.getElem?_take, Vector.getElem?_toList, hv]
    split
    · rfl
    · exact (List.getElem?_eq_none (by omega)).symm
  · rw [List.getElem?_drop, List.getElem?_drop, Vector.getElem?_toList, Vector.getElem?_toList, hv, if_neg (by omega)]

/-- Settles O16: the id and the length, then the data bytes by run_dataWrites, then the checksum. -/
theorem frameCallsSetTheOperands : Obligations.FrameCallsSetTheOperands := by
  intro s id chk data n rest hi
  refine ⟨fun hlen ht => ?_, fun _ ht => run_idLen hi ht⟩
  have htake : data.take maxData = data := List.take_of_length_le hlen
  have hidlen := run_idLen (rest := dataWrites 0 data ++ .write 0x0A (chk.setWidth 32) :: .write 0x0B 4 :: .wait :: .read 0x0D :: rest)
    hi (by simpa [sendFrameCall, htake, wr, rd, command, cmdReg, resultReg] using ht)
  obtain ⟨v, hdata, hv⟩ := run_dataWrites data (i := 0)
    (s := { s with
      ops := { s.ops with id := id, len := BitVec.ofNat 4 data.length }
      env := { s.env with turns := dataWrites 0 data ++ .write 0x0A (chk.setWidth 32) :: .write 0x0B 4 :: .wait :: .read 0x0D :: rest } })
    hi (by omega) rfl
  refine ⟨v, ?_, toList_of_get fun j => by simpa using hv j⟩
  have hchk := step_write (s := { s with
      ops := { id := id, len := BitVec.ofNat 4 data.length, chk := s.ops.chk, data := v }
      env := { s.env with turns := .write 0x0A (chk.setWidth 32) :: .write 0x0B 4 :: .wait :: .read 0x0D :: rest } })
    rfl hi (by decide)
  rw [storeReg_chk] at hchk
  rw [show data.length + 3 = 2 + (data.length + 1) by omega, run_add 2 _ hidlen, run_add data.length 1 hdata]
  exact run_succ 0 hchk

/-! ### The reads after a call (R123) -/

theorem resultCode_eq_ok_iff (c : RCode) : resultCode c = resultCode .ok ↔ c = .ok := by
  cases c <;> decide

theorem resultCode_eq_partial_iff (c : RCode) : resultCode c = resultCode .onlyPartialResponse ↔ c = .onlyPartialResponse := by
  cases c <;> decide

/-- The result that the host reads from the words of STATUS and RESULT (R52, R53). -/
theorem endedWith_iff (s : State) (c : RCode) :
    endedWith c s.statusWord s.resultWord = true ↔ s.res.done = true ∧ resultCode s.res.code = resultCode c := by
  simp only [endedWith, statusWord_done, resultWord_code, Bool.and_eq_true, beq_iff_eq]
  rw [ofBool_eq_one_iff]

theorem endedWith_ok_iff (s : State) :
    endedWith .ok s.statusWord s.resultWord = true ↔ s.res.done = true ∧ s.res.code = .ok := by
  rw [endedWith_iff, resultCode_eq_ok_iff]

theorem endedWith_partial_iff (s : State) :
    endedWith .onlyPartialResponse s.statusWord s.resultWord = true ↔ s.res.done = true ∧ s.res.code = .onlyPartialResponse := by
  rw [endedWith_iff, resultCode_eq_partial_iff]

/-- How many bytes of BUF the host reads back (R123). -/
theorem bufReadCount_of_ok {s : State} (n : Nat) (hd : s.res.done = true) (hc : s.res.code = .ok) :
    bufReadCount s.statusWord s.resultWord n = n := by
  rw [bufReadCount, if_pos ((endedWith_ok_iff s).2 ⟨hd, hc⟩)]

theorem bufReadCount_of_partial {s : State} (n : Nat) (hd : s.res.done = true) (hc : s.res.code = .onlyPartialResponse) :
    bufReadCount s.statusWord s.resultWord n = s.res.count.toNat := by
  have hok : ¬endedWith .ok s.statusWord s.resultWord = true := by rw [endedWith_ok_iff, hc]; simp
  rw [bufReadCount, if_neg hok, if_pos ((endedWith_partial_iff s).2 ⟨hd, hc⟩), resultWord_count]

theorem bufReadCount_of_other {s : State} (n : Nat)
    (h : s.res.done = false ∨ s.res.code ≠ .ok ∧ s.res.code ≠ .onlyPartialResponse) :
    bufReadCount s.statusWord s.resultWord n = 0 := by
  have hok : ¬endedWith .ok s.statusWord s.resultWord = true := by
    rw [endedWith_ok_iff]
    rcases h with h | ⟨h, -⟩ <;> simp [h]
  have hpartial : ¬endedWith .onlyPartialResponse s.statusWord s.resultWord = true := by
    rw [endedWith_partial_iff]
    rcases h with h | ⟨-, h⟩ <;> simp [h]
  rw [bufReadCount, if_neg hok, if_neg hpartial]

/-- Settles O17: the reads are ranges of registers (run_rdRange), whose words are the bytes of FRAME and of BUF. -/
theorem callReadsGiveTheBytes : Obligations.CallReadsGiveTheBytes := by
  intro s n rest _
  refine ⟨fun hd hc ht => ?_, fun m hd hm ht j hj => ?_, fun h => ?_, fun h => ?_⟩
  · rw [sendFrameReads, if_pos ((endedWith_ok_iff s).2 ⟨hd, hc⟩)] at ht
    have hlen := step_read (rest := rdRange 0x20 (3 + n) ++ rest) ht
    refine ⟨run_succ 0 hlen, fun j hj => ?_⟩
    rw [run_succ (j.val + 1) hlen, run_rdRange hj rfl]
    exact congrArg (fun w : Word => Host.Outcome.next { s with env := { s.env with
      turns := (rdRange 0x20 (3 + n)).drop (j.val + 1) ++ rest, rdata := w } }) (readReg_frame s j)
  · have hcount : bufReadCount s.statusWord s.resultWord n = m := by
      rcases hm with ⟨hc, rfl⟩ | ⟨hc, rfl⟩
      · exact bufReadCount_of_ok _ hd hc
      · exact bufReadCount_of_partial n hd hc
    rw [readFrameReads, hcount] at ht
    rw [run_rdRange hj ht, readReg_buf s j]
  · refine if_neg ?_
    rw [endedWith_ok_iff]
    rcases h with h | h <;> simp [h]
  · rw [readFrameReads, bufReadCount_of_other n h, rdRange_zero]

end Sys2Proof.Machine
end

section
/-! PROOFS. The length of the break and of a delay (40_timing_profile.md section 1, 70_reset_and_hazards.md section 4), the
step into each action that an answer leads to, the output ports (30_encoding.md section 3), and the words that are placed. -/

namespace Sys2Proof.Machine

/-! ### Lengths -/

theorem breakNs_of_fixed {p : Profile} (h : p.brkSel = 0) : p.breakNs = 13 * p.bitNs := by
  rw [Profile.breakNs, Profile.breakBits, if_pos h, Nat.mul_comm]

theorem breakNs_of_extra {p : Profile} (h : p.brkSel = 1) : p.breakNs = (13 + p.brkExtra.toNat) * p.bitNs := by
  rw [Profile.breakNs, Profile.breakBits, if_neg (by rw [h]; decide), Nat.mul_comm]

/-- Settles O19: the range is that of the bit period times that of the count of bits. -/
theorem breakLengthRange : Obligations.BreakLengthRange := by
  intro p
  obtain ⟨hlo, hhi⟩ := bitNs_bounds p
  obtain ⟨blo, bhi⟩ := breakBits_bounds p
  exact ⟨breakNs_of_fixed, breakNs_of_extra, Nat.mul_le_mul hlo blo, Nat.mul_le_mul hhi bhi⟩

theorem period_of_pos {c : Config} (h : 1 ≤ c.tickNs) : c.period = c.tickNs := Nat.max_eq_right h

/-- Settles O22: the quotient of n + TICK_NS - 1 rounds n up. -/
theorem delayRoundsUpToPeriods : Obligations.DelayRoundsUpToPeriods := by
  intro c n h
  have hge := periodsFor_mul_ge c n
  have hle := Nat.div_mul_le_self (n + c.tickNs - 1) c.tickNs
  rw [period_of_pos h] at hge
  refine ⟨hge, ?_, fun h1 => ?_⟩
  · rw [periodsFor, period_of_pos h]
    omega
  · rw [periodsFor, period_of_pos h, h1, Nat.div_one]
    rfl

/-! ### The action that follows an answer -/

/-- The next STEP is k, and the action that stands there begins. -/
theorem nextStep_of_action {u : State} {k : BitVec 5} {a : Action} (hk : u.ctl.stepNo + 1 = k) (ha : (u.setStep k).action = a) :
    u.nextStep = (u.setStep k).begin a := by
  rw [State.nextStep, hk]
  exact enterStep_of_action ha

section NextStep

variable {u : State} (hb : u.ctl.eng = .busy)
include hb

/-- After the burst's last byte the Flush is under way (R181). -/
theorem nextStep_of_burst (ho : u.ctl.curOp = .sendFrame) (hk : u.ctl.stepNo = 6) : u.nextStep = u.setStep 7 :=
  nextStep_of_action (by rw [hk]; rfl) (action_sendFrame (s := u.setStep 7) hb ho)

/-- After the flush the inter-frame space begins (R187). -/
theorem nextStep_of_flush (ho : u.ctl.curOp = .sendFrame) (hk : u.ctl.stepNo = 7) {d : Nat} (hd : u.active.ifsNs = some d) :
    u.nextStep = (u.setStep 8).loadDelay (BitVec.ofNat 32 d) :=
  nextStep_of_action (a := .delay (some d)) (by rw [hk]; rfl)
    ((action_sendFrame (s := u.setStep 8) hb ho).trans (congrArg Action.delay hd))

/-- After the header's sync byte its id is under way (R234). -/
theorem nextStep_of_header_sync (ho : u.ctl.curOp = .readFrame) (hk : u.ctl.stepNo = 6) : u.nextStep = u.setStep 7 :=
  nextStep_of_action (by rw [hk]; rfl) (action_readFrame (s := u.setStep 7) hb ho)

/-- After the header's id the response timeout begins (R234). -/
theorem nextStep_of_header_id (ho : u.ctl.curOp = .readFrame) (hk : u.ctl.stepNo = 7) {r : Nat} (hr : u.active.rtoNs = some r) :
    u.nextStep = (u.setStep 8).loadDelay (BitVec.ofNat 32 r) :=
  nextStep_of_action (a := .delay (some r)) (by rw [hk]; rfl)
    ((action_readFrame (s := u.setStep 8) hb ho).trans (congrArg Action.delay hr))

/-- A parse that stops begins the trailing inter-frame space (R231). -/
theorem nextStep_of_parse (ho : u.ctl.curOp = .readFrame) (hk : u.ctl.stepNo = 9) {d : Nat} (hd : u.active.ifsNs = some d) :
    u.nextStep = (u.setStep 10).loadDelay (BitVec.ofNat 32 d) :=
  nextStep_of_action (a := .delay (some d)) (by rw [hk]; rfl)
    ((action_readFrame (s := u.setStep 10) hb ho).trans (congrArg Action.delay hd))

end NextStep

theorem exec_txOk_of_action {s : State} {b : Byte} {m : Bool} (h : s.action = .tx b m) :
    exec .txOk s = .next (s.txTaken b m) := onTx_of_action h

/-- An Ok answer with bytes left: the same STEP with the next byte (R181). -/
theorem txTaken_more (s : State) (b : Byte) : s.txTaken b true = (s.record (.tx b .ok)).setTxi (s.ctl.txi + 1) := rfl

theorem txTaken_last (s : State) (b : Byte) :
    s.txTaken b false = ((s.record (.tx b .ok)).setTxi (s.ctl.txi + 1)).nextStep := rfl

/-- An answer and the action that begins in the same step are two entries of the trace. -/
theorem two_records (tr : List Event) (e e' : Event) : tr ++ [e, e'] = (tr ++ [e]) ++ [e'] := by simp

/-- Settles O32, at each of the three places by the action that follows. -/
theorem txOkTakesTheByte : Obligations.TxOkTakesTheByte := by
  intro s hb
  refine ⟨fun ho hk b hf => ?_, fun ho hk => ?_, fun ho hk r hr => ?_⟩
  · rw [exec_txOk_of_action (action_sendFrame_burst hb ho hk hf)]
    by_cases hmore : s.ctl.txi.toNat + 1 < s.frameLen.toNat
    · rw [decide_eq_true hmore, if_pos hmore, txTaken_more, ← hk]
      rfl
    · rw [decide_eq_false hmore, if_neg hmore, txTaken_last, nextStep_of_burst (by exact hb) (by exact ho) (by exact hk)]
      rfl
  · rw [exec_txOk_of_action (action_readFrame_sync hb ho hk), txTaken_last,
      nextStep_of_header_sync (by exact hb) (by exact ho) (by exact hk)]
    rfl
  · rw [exec_txOk_of_action (action_readFrame_id hb ho hk), txTaken_last,
      nextStep_of_header_id (by exact hb) (by exact ho) (by exact hk) (by exact hr), two_records]
    rfl

theorem action_sendFrame_flush {s : State} (hb : s.ctl.eng = .busy) (ho : s.ctl.curOp = .sendFrame) (hk : s.ctl.stepNo = 7) :
    s.action = .flush := by
  rw [action_sendFrame hb ho, hk]
  rfl

/-- Settles O34: the Ok answer by nextStep_of_flush, the other one by its ending. -/
theorem flushAnswersAtSendFrame : Obligations.FlushAnswersAtSendFrame := by
  intro s d hb ho hk hd
  have ha := action_sendFrame_flush hb ho hk
  refine ⟨?_, exec_flushFail_of_action ha⟩
  rw [exec_flushOk_of_action ha, nextStep_of_flush (u := s.record (.flush .ok)) hb ho hk hd, two_records]
  rfl

/-- Settles O40: the checksum is captured and the trailing space begins. -/
theorem awaitChecksumOnByte : Obligations.AwaitChecksumOnByte := by
  intro s b d hb ho hk hph hd
  have hp := polling_of_phase hb ho hk hph (by decide)
  rw [exec_awaitChecksum hp b hph, nextStep_of_parse (u := (s.record (.rx (.byte b))).captureChk b) hb ho hk hd, two_records]
  rfl

/-- Settles O41: RX_ERROR and its reserved twin have one meaning. -/
theorem parseStopsOnWouldBlockOrError : Obligations.ParseStopsOnWouldBlockOrError := by
  intro s e d hb ho hk hph hd
  have hp : s.polling = true := polling_of_phase hb ho hk rfl hph
  have herr : ((s.record (.rx (.err e))).readError e).nextStep = { s with
      parser := { s.parser with rxErrV := true, rxErr := e }
      ctl := { s.ctl with stepNo := 10, dly := BitVec.ofNat 32 d }
      env := { s.env with trace := s.env.trace ++ [.rx (.err e), .delay (BitVec.ofNat 32 d)] } } := by
    rw [nextStep_of_parse (u := (s.record (.rx (.err e))).readError e) hb ho hk hd, two_records]
    rfl
  refine ⟨?_, fun i hi => ?_⟩
  · rw [exec_rxWouldBlock_of_polling hp, nextStep_of_parse (u := s.record (.rx .wouldBlock)) hb ho hk hd, two_records]
    rfl
  · rw [← herr]
    rcases hi with rfl | rfl
    · exact exec_rxError_of_polling hp e
    · exact exec_rxReserved3_of_polling hp e

/-! ### The output ports (30_encoding.md section 3) -/

/-- The byte that an action hands to the transport (R23). -/
def Action.byte : Action → Option Byte
  | .tx b _ => some b
  | _ => Option.none

theorem txPending_eq (s : State) : s.txPending = s.action.byte := by
  unfold State.txPending
  generalize s.action = a
  cases a <;> rfl

/-- The requests are those of the action under way (R107). -/
theorem ports_of_action {s : State} {a : Action} (h : s.action = a) :
    s.ports.txValid = a.byte.isSome ∧ s.ports.txData = a.byte.getD 0 ∧ s.ports.flushReq = (a == .flush) ∧
    s.ports.rxPoll = (a == .parse && s.parser.phase != .done) := by
  subst h
  rw [← txPending_eq]
  exact ⟨rfl, rfl, rfl, rfl⟩

/-- Settles O57: every place by the action that stands there. -/
theorem portsShowThePendingAction : Obligations.PortsShowThePendingAction := by
  intro s
  refine ⟨rfl, rfl, rfl, fun _ => rfl, fun hb => ?_, fun hb ho hk b hf => ?_, fun hb ho hk => ?_, fun hb ho hk => ?_,
    fun hb ho hk => ?_, fun hb ho hk hph => ?_⟩
  · obtain ⟨h1, -, h3, h4⟩ := ports_of_action (action_of_not_busy hb)
    exact ⟨h1, h3, h4⟩
  · obtain ⟨h1, h2, h3, h4⟩ := ports_of_action (action_sendFrame_burst hb ho hk hf)
    exact ⟨h1, h2, h3, h4⟩
  · obtain ⟨h1, -, h3, h4⟩ := ports_of_action (action_sendFrame_flush hb ho hk)
    exact ⟨h3, h1, h4⟩
  · obtain ⟨h1, h2, h3, h4⟩ := ports_of_action (action_readFrame_sync hb ho hk)
    exact ⟨h1, h2, h3, h4⟩
  · obtain ⟨h1, h2, h3, h4⟩ := ports_of_action (action_readFrame_id hb ho hk)
    exact ⟨h1, h2, h3, h4⟩
  · have hp : s.polling = true := polling_of_phase hb ho hk rfl hph
    have ha : s.action = .parse := by
      rw [action_readFrame hb ho, hk]
      rfl
    obtain ⟨h1, -, h3, -⟩ := ports_of_action ha
    exact ⟨hp, h1, h3⟩

/-! ### Placed words (log entry 20) -/

/-- In AwaitSync the decoder reads no other register of the parser (R202, R203). -/
theorem decodeRx_of_awaitSync {v v' : ParserView} (h : v.phase = .awaitSync) (h' : v'.phase = .awaitSync) (w : RxWord) :
    decodeRx v w = decodeRx v' w := by
  simp only [decodeRx, decodeRxByte, h, h']

/-- An answer word is placed on its own port. -/
theorem withFetchWord_of_answer (s : State) {w : Nat} {p : PortWord} (h : answerWord w = some p) :
    s.withFetchWord 8 w = s.placeWord p := by
  simp only [State.withFetchWord, State.placeTableWord, tablePortWord, h]
  rfl

theorem decodeTableWord_of_answer {w : Nat} {p : PortWord} {i : Instr} (h : answerWord w = some p)
    (hd : decode resetView p = .ok i) : decodeTableWord 8 w = some i := by
  simp [decodeTableWord, h, hd]

/-- A turn of the engine is one move of it. -/
theorem step_engine {s : State} {rest : List Turn} (h : s.env.turns = .engine :: rest) :
    step s = engineMove (s.setTurns rest) :=
  step_of_turn h

/-- Settles O6, one port at a time: answerWord reads the packing, and the engine's turn takes the answer that was placed. -/
theorem placedWordIsRunNext : Obligations.PlacedWordIsRunNext := by
  intro s w k a b
  refine ⟨rfl, rfl, ?_, decodeTableWord_of_answer (answerWord_tx a b) rfl, ?_,
    decodeTableWord_of_answer (answerWord_flush a) rfl, ?_⟩
  · obtain ⟨i, hi⟩ := decodeRx_total (v := { s.view with phase := .awaitSync }) { kind := k, data := b, err := b }
      (by simp) (by simp)
    refine ⟨i, hi, decodeTableWord_of_answer (answerWord_rx k b) ((decodeRx_of_awaitSync rfl rfl _).trans hi), ?_⟩
    rw [withFetchWord_of_answer s (answerWord_rx k b), step_engine rfl]
    exact engineMove_rx rfl (rxNext_of_cons rfl) hi
  · rw [withFetchWord_of_answer s (answerWord_tx a b), step_engine rfl]
    exact engineMove_tx (b := syncByte) (m := false) rfl rfl
  · rw [withFetchWord_of_answer s (answerWord_flush a), step_engine rfl]
    exact engineMove_flush rfl rfl

end Sys2Proof.Machine
end

section
/-! PROOFS. The commands run from their acceptance to their end (41_pulse_sequencer.md, 42_frame_tx.md, 44_read_frame.md): the
pulse that all four share, the break and the wakeup, the frame that SEND_FRAME sends, READ_FRAME up to its first poll. -/

namespace Sys2Proof.Machine

/-! ### Line and Delay in a run of the engine left to itself -/

/-- The action under way does not depend on the line, on DLY or on the environment. -/
theorem action_of_line_dly_env (s : State) (l : Level) (d : Word) (e : Env) :
    ({ s with line := l, ctl := { s.ctl with dly := d }, env := e } : State).action = s.action := by
  simp [State.action, sendBreakAction, sendWakeupAction, sendFrameAction, readFrameAction, breakAction, State.frameAtTxi]

theorem step_line {s : State} {l : Level} (ht : s.env.turns = []) (ha : s.action = .line l) : step s = .next s.nextStep := by
  rw [step_of_no_turn ht (not_halted_of_action (by simp [ha]))]
  exact engineMove_line ha

theorem step_build {s : State} (ht : s.env.turns = []) (ha : s.action = .build) : step s = .next s.nextStep := by
  rw [step_of_no_turn ht (not_halted_of_action (by simp [ha]))]
  exact engineMove_build ha

/-- A delay of n nanoseconds has been begun and served: both are in the record (R318). -/
def State.waited (s : State) (n : Nat) : State :=
  { s with
    ctl := { s.ctl with dly := 0 }
    env := { s.env with
      trace := s.env.trace ++ [.delay (BitVec.ofNat 32 n)]
      clock := s.env.clock + periodsFor s.cfg n } }

@[simp] theorem waited_active (s : State) (n : Nat) : (s.waited n).active = s.active := rfl
@[simp] theorem waited_ops (s : State) (n : Nat) : (s.waited n).ops = s.ops := rfl
@[simp] theorem waited_ctl (s : State) (n : Nat) : (s.waited n).ctl = { s.ctl with dly := 0 } := rfl

/-- A delay that has just begun is served in one step. -/
theorem step_loadDelay {s : State} {n : Nat} (ht : s.env.turns = []) (ha : s.action = .delay (some n))
    (hn : n < 4294967296) : step (s.loadDelay (BitVec.ofNat 32 n)) = .next (s.waited n).nextStep := by
  have ha' : (s.loadDelay (BitVec.ofNat 32 n)).action = .delay (some n) := (action_of_line_dly_env s s.line _ _).trans ha
  have hserve : (s.loadDelay (BitVec.ofNat 32 n)).serveDelay = s.waited n := by
    rw [serveDelay_eq]
    simp only [State.waited, State.loadDelay_ctl, State.loadDelay_env, State.loadDelay_cfg, toNat_ofNat_of_lt hn]
    rfl
  rw [step_of_no_turn (by exact ht) (not_halted_of_action (by simp [ha'])), engineMove_delay ha', hserve]

/-- A Line and, at the STEP after it, a Delay: both are in the record. -/
def State.lineWaited (s : State) (l : Level) (n : Nat) : State := ((s.driveLine l).setStep (s.ctl.stepNo + 1)).waited n

/-- A Line that has just begun and the Delay at the next STEP take two steps (R160). -/
theorem run_line_delay {s : State} {l : Level} {n : Nat} (ht : s.env.turns = []) (ha : s.action = .line l)
    (hd : (s.setStep (s.ctl.stepNo + 1)).action = .delay (some n)) (hn : n < 4294967296) :
    Host.Core.run Sys2Proof.core 2 (s.driveLine l) = .next (s.lineWaited l n).nextStep := by
  have hl : (s.driveLine l).action = .line l := (action_of_line_dly_env s _ _ _).trans ha
  have hd' : ((s.driveLine l).setStep (s.ctl.stepNo + 1)).action = .delay (some n) :=
    (action_of_line_dly_env (s.setStep _) _ _ _).trans hd
  have hline := step_line (by exact ht) hl
  rw [nextStep_of_action (a := .delay (some n)) rfl hd'] at hline
  exact (run_succ 1 hline).trans (run_succ 0 (step_loadDelay (by exact ht) hd' hn))

/-- A pulse has been served up to its last delay, three STEPs after its first Line (R160). -/
def State.pulsed (s : State) (a r : Nat) : State :=
  { s with
    line := s.cfg.idleLevel
    ctl := { s.ctl with stepNo := s.ctl.stepNo + 1 + 1 + 1, dly := 0 }
    env := { s.env with
      trace := s.env.trace ++ [.line s.cfg.assertLevel, .delay (BitVec.ofNat 32 a), .line s.cfg.idleLevel,
        .delay (BitVec.ofNat 32 r)]
      clock := s.env.clock + periodsFor s.cfg a + periodsFor s.cfg r } }

@[simp] theorem pulsed_active (s : State) (a r : Nat) : (s.pulsed a r).active = s.active := rfl

/-- The two halves of a pulse. -/
theorem pulsed_eq (s : State) (a r : Nat) :
    s.pulsed a r = ((s.lineWaited s.cfg.assertLevel a).setStep (s.ctl.stepNo + 1 + 1)).lineWaited s.cfg.idleLevel r := by
  simp [State.lineWaited, State.waited, State.pulsed, State.driveLine, State.record, State.setStep]

/-- A pulse takes four steps from its first Line on (R160), and the next STEP follows. -/
theorem run_pulse {s : State} {a r : Nat} (ht : s.env.turns = []) (hal : a < 4294967296) (hrl : r < 4294967296)
    (h0 : s.action = .line s.cfg.assertLevel) (h1 : (s.setStep (s.ctl.stepNo + 1)).action = .delay (some a))
    (h2 : (s.setStep (s.ctl.stepNo + 1 + 1)).action = .line s.cfg.idleLevel)
    (h3 : (s.setStep (s.ctl.stepNo + 1 + 1 + 1)).action = .delay (some r)) :
    Host.Core.run Sys2Proof.core 4 (s.driveLine s.cfg.assertLevel) = .next (s.pulsed a r).nextStep := by
  have hline : ((s.lineWaited s.cfg.assertLevel a).setStep (s.ctl.stepNo + 1 + 1)).action = .line s.cfg.idleLevel :=
    (action_of_line_dly_env (s.setStep _) _ _ _).trans h2
  have hasserted := run_line_delay ht h0 h1 hal
  rw [nextStep_of_action (u := s.lineWaited s.cfg.assertLevel a) rfl hline] at hasserted
  rw [pulsed_eq]
  exact (run_add 2 2 hasserted).trans
    (run_line_delay (by exact ht) hline ((action_of_line_dly_env (s.setStep _) _ _ _).trans h3) hrl)

/-! ### SEND_BREAK and SEND_WAKEUP (R162, R166) -/

/-- Settles O27: the pulse of break_ns and bit_ns, then the ending. -/
theorem sendBreakPulsesAndCompletes : Obligations.SendBreakPulsesAndCompletes := by
  intro s hi
  refine ⟨_, exec_sendBreak_of_idle hi, rfl, fun ht => ?_⟩
  exact run_pulse (s := (s.accept .sendBreak).setStep 1) ht (breakNs_lt s.active) (bitNs_lt s.active) rfl rfl rfl rfl

/-- Settles O28: the pulse of twice wake_ns, or the halt of the precheck. -/
theorem sendWakeupPulsesOrHalts : Obligations.SendWakeupPulsesOrHalts := by
  intro s n hi hn
  refine ⟨fun hle => ?_, fun hgt => ?_⟩
  · have hc : precheckSendWakeup s = .none := (precheckSendWakeup_none_iff s).2 ⟨n, hn, hle⟩
    refine ⟨_, exec_sendWakeup_of_checked hi hc, rfl, fun ht => ?_⟩
    have hd : Action.delay s.active.wakeupNs = .delay (some n) := congrArg _ hn
    exact run_pulse (s := (s.accept .sendWakeup).setStep 1) ht (wakeupNs_lt hn) (wakeupNs_lt hn) rfl hd rfl hd
  · have hc : precheckSendWakeup s = .wakeupTooLong := by
      simp only [precheckSendWakeup, hn]
      exact if_neg (Nat.not_le.2 hgt)
    exact exec_sendWakeup_of_precheck hi hc (by decide)

/-! ### The frame (R101, R183) -/

section Frame

variable (o : Operands)

theorem frameByte_data {i : Nat} (h : i < o.len.toNat) : o.frameByte (2 + i) = o.dataAt i := by
  rw [Operands.frameByte, if_neg (by omega), if_neg (by omega), if_pos (by omega), Nat.add_sub_cancel_left]

theorem frameByte_chk : o.frameByte (2 + o.len.toNat) = o.chk := by
  rw [Operands.frameByte, if_neg (by omega), if_neg (by omega), if_neg (by omega), if_pos rfl]

theorem frameByte_beyond {i : Nat} (h : 3 + o.len.toNat ≤ i) : o.frameByte i = 0 := by
  rw [Operands.frameByte, if_neg (by omega), if_neg (by omega), if_neg (by omega), if_neg (by omega)]

theorem dataAt_of_lt {i : Nat} (h : i < 8) : o.dataAt i = o.data[i] := by
  simp [Operands.dataAt, h]

theorem frameList_length (h : o.len.toNat ≤ 8) : o.frameList.length = 3 + o.len.toNat := by
  simp [Operands.frameList, h]
  omega

/-- The bytes of the frame are those of the buffer up to its length. -/
theorem frameBytes_get_eq_frameList (h8 : o.len.toNat ≤ 8) {i : Nat} (hi : i < 3 + o.len.toNat) :
    o.frameBytes[i]? = o.frameList[i]? := by
  have hlen : (o.data.toList.take o.len.toNat).length = o.len.toNat := by simp [h8]
  rw [frameBytes_get o i (by omega), Operands.frameList]
  obtain rfl | rfl | ⟨j, hj⟩ : i = 0 ∨ i = 1 ∨ ∃ j, i = 2 + j := by
    rcases i with _ | _ | j
    · exact .inl rfl
    · exact .inr (.inl rfl)
    · exact .inr (.inr ⟨j, by omega⟩)
  · rfl
  · rfl
  · subst hj
    rcases Nat.lt_or_ge j o.len.toNat with hj | hj
    · rw [frameByte_data o hj, dataAt_of_lt o (by omega), List.append_assoc, List.getElem?_append_right (by simp),
        List.getElem?_append_left (by simp; omega)]
      simp [hj]
    · obtain rfl : j = o.len.toNat := by omega
      have hpos : 2 + o.len.toNat = ([syncByte, o.id] ++ o.data.toList.take o.len.toNat).length := by simp [hlen]; omega
      rw [frameByte_chk, hpos, List.getElem?_concat_length]

end Frame

/-- The frame that the acceptance of SEND_FRAME builds (R181, R183). -/
theorem exec_sendFrame_eq {s : State} (hi : s.ctl.eng = .idle) (h1 : 1 ≤ s.ops.len.toNat) (h8 : s.ops.len.toNat ≤ 8) {d : Nat}
    (hd : s.active.ifsNs = some d) : exec .sendFrame s = .next (((s.accept .sendFrame).setStep 1).buildFrame) := by
  rw [exec_sendFrame_of_checked hi ((precheckSendFrame_none_iff s).2 ⟨h1, h8, d, hd⟩)]
  rfl

/-- Settles O30, position by position. -/
theorem sendFrameBuildsTheFrame : Obligations.SendFrameBuildsTheFrame := by
  intro s hi h1 h8 hd
  obtain ⟨d, hd⟩ := Option.ne_none_iff_exists'.1 hd
  refine ⟨s.ops.frameBytes, exec_sendFrame_eq hi h1 h8 hd, rfl, rfl, frameLen_toNat h8, fun i hi => ?_, ?_, fun j hj => ?_⟩
  · rw [frameBytes_get _ _ (by omega), frameByte_data _ hi, dataAt_of_lt _ i.isLt]
    rfl
  · rw [frameBytes_get _ _ (by omega), frameByte_chk]
  · have hget := frameBytes_get s.ops j.val j.isLt
    rw [frameByte_beyond _ hj, Vector.getElem?_eq_getElem j.isLt] at hget
    exact Option.some.inj hget

/-! ### The write burst (R185) -/

/-- One Ok answer to TxByte is one step. -/
theorem step_txOk {s : State} {b : Byte} {m : Bool} {w : TxWord} {rest : List TxWord} (ht : s.env.turns = [])
    (ha : s.action = .tx b m) (hw : s.env.txAns = w :: rest) (hok : w.ans = 0) :
    step s = .next ((s.setTxAns rest).txTaken b m) := by
  rw [step_of_no_turn ht (not_halted_of_action (by simp [ha])), engineMove_tx ha hw,
    exec_decodeTx (s := s.setTxAns rest) ((action_of_env s _).trans ha), if_pos hok]

/-- The burst hands over the bytes bs of the frame from TXI on, one step each, and goes on to the flush (R181). -/
theorem run_burst {bs : List Byte} {s : State} {oks txRest : List TxWord} (hb : s.ctl.eng = .busy)
    (ho : s.ctl.curOp = .sendFrame) (hk : s.ctl.stepNo = 6) (ht : s.env.turns = []) (hne : bs ≠ [])
    (hlen : s.ctl.txi.toNat + bs.length = s.frameLen.toNat) (hbs : ∀ i, i < bs.length → s.frame[s.ctl.txi.toNat + i]? = bs[i]?)
    (hoks : oks.length = bs.length) (hok : ∀ w ∈ oks, w.ans = 0) (hans : s.env.txAns = oks ++ txRest) :
    Host.Core.run Sys2Proof.core bs.length s = .next { s with
      ctl := { s.ctl with stepNo := 7, txi := s.frameLen }
      env := { s.env with txAns := txRest, trace := s.env.trace ++ bs.map (.tx · .ok) } } := by
  induction bs generalizing s oks with
  | nil => exact absurd rfl hne
  | cons b bs ih =>
    obtain ⟨w, oks, rfl⟩ : ∃ w l, oks = w :: l := List.exists_cons_of_length_eq_add_one hoks
    obtain ⟨hw, hok⟩ := List.forall_mem_cons.1 hok
    have hf : s.frame[s.ctl.txi.toNat]? = some b := hbs 0 (by simp)
    have hstep := step_txOk ht (action_sendFrame_burst hb ho hk hf) hans hw
    have hlt := s.frameLen.isLt
    simp only [List.length_cons] at hlen hoks hbs ⊢
    have hsucc : (s.ctl.txi + 1).toNat = s.ctl.txi.toNat + 1 := by bv_omega
    cases bs with
    | nil =>
      obtain rfl : oks = [] := List.eq_nil_of_length_eq_zero (by simpa using hoks)
      have hend : s.ctl.txi + 1 = s.frameLen := BitVec.eq_of_toNat_eq (hsucc.trans hlen)
      rw [decide_eq_false (by simp at hlen; omega), txTaken_last,
        nextStep_of_burst (by exact hb) (by exact ho) (by exact hk)] at hstep
      simp only [State.setTxAns_ctl, hend] at hstep
      exact run_succ 0 hstep
    | cons b' bs =>
      simp only [List.length_cons] at hlen hoks hbs ⊢
      rw [decide_eq_true (by omega), txTaken_more] at hstep
      rw [run_succ _ hstep]
      have hrest := ih (s := ((s.setTxAns (oks ++ txRest)).record (.tx b .ok)).setTxi (s.ctl.txi + 1)) (oks := oks) hb ho hk ht
        (by simp) (by simp; omega) (fun i hi => ?_) (by simpa using hoks) hok rfl
      · simpa using hrest
      · have := hbs (i + 1) (by simp at hi; omega)
        simp only [State.setTxi_ctl, State.setTxi_frame, hsucc]
        rw [Nat.add_assoc, Nat.add_comm 1 i]
        exact this

/-! ### The whole of SEND_FRAME (R181) -/

theorem step_flushOk {s : State} {rest : List (BitVec 1)} (ht : s.env.turns = []) (ha : s.action = .flush)
    (hw : s.env.flushAns = 0 :: rest) : step s = .next ((s.setFlushAns rest).record (.flush .ok)).nextStep := by
  rw [step_of_no_turn ht (not_halted_of_action (by simp [ha])), engineMove_flush ha hw,
    exec_decodeFlush (s := s.setFlushAns rest) ((action_of_env s _).trans ha), if_pos rfl]

/-- From the frame as it was built the break is driven, and the burst is next. -/
theorem run_sendFrame_break {u : State} (hb : u.ctl.eng = .busy) (ho : u.ctl.curOp = .sendFrame) (hk : u.ctl.stepNo = 1)
    (ht : u.env.turns = []) :
    Host.Core.run Sys2Proof.core 5 u = .next (((u.setStep 2).pulsed u.active.breakNs u.active.bitNs).setStep 6) := by
  have hact := fun k => action_sendFrame (s := u.setStep k) hb ho
  have hbuild := step_build ht ((action_sendFrame hb ho).trans (by rw [hk]; rfl))
  rw [nextStep_of_action (by rw [hk]; rfl) (hact 2)] at hbuild
  have hpulse := run_pulse (s := u.setStep 2) ht (breakNs_lt u.active) (bitNs_lt u.active) (hact 2) (hact 3) (hact 4) (hact 5)
  rw [nextStep_of_action (k := 6) rfl (action_sendFrame (s := ((u.setStep 2).pulsed _ _).setStep 6) hb ho)] at hpulse
  exact (run_succ 4 hbuild).trans hpulse

/-- From the flush on: the inter-frame space is waited and the command ends with Ok (R187). -/
theorem run_sendFrame_end {u : State} {d : Nat} {rest : List (BitVec 1)} (hb : u.ctl.eng = .busy) (ho : u.ctl.curOp = .sendFrame)
    (hk : u.ctl.stepNo = 7) (ht : u.env.turns = []) (hd : u.active.ifsNs = some d) (hw : u.env.flushAns = 0 :: rest) :
    Host.Core.run Sys2Proof.core 2 u
      = .next ((((((u.setFlushAns rest).record (.flush .ok)).setStep 8).waited d).setStep 9).complete .ok 0 0 0) := by
  have hflush := step_flushOk ht (action_sendFrame_flush hb ho hk) hw
  rw [nextStep_of_flush (u := (u.setFlushAns rest).record (.flush .ok)) hb ho hk hd] at hflush
  have hdelay := step_loadDelay (s := ((u.setFlushAns rest).record (.flush .ok)).setStep 8) ht
    ((action_sendFrame (s := ((u.setFlushAns rest).record (.flush .ok)).setStep 8) hb ho).trans (congrArg Action.delay hd))
    (policyNs_lt hd)
  rw [nextStep_of_action (k := 9) rfl (action_sendFrame
    (s := ((((u.setFlushAns rest).record (.flush .ok)).setStep 8).waited d).setStep 9) hb ho)] at hdelay
  exact (run_succ 1 hflush).trans (run_succ 0 hdelay)

/-- SEND_FRAME at the first byte of its burst: the frame is built and the break has been driven. -/
def State.burstReady (s : State) : State :=
  ((((s.accept .sendFrame).setStep 1).buildFrame.setStep 2).pulsed s.active.breakNs s.active.bitNs).setStep 6

/-- SEND_FRAME at its flush: the frame has been handed over. -/
def State.flushReady (s : State) (txRest : List TxWord) : State :=
  { s.burstReady with
    ctl := { s.burstReady.ctl with stepNo := 7, txi := 3 + s.ops.len }
    env := { s.burstReady.env with
      txAns := txRest, trace := s.burstReady.env.trace ++ s.ops.frameList.map (.tx · .ok) } }

theorem flushReady_active (s : State) (txRest : List TxWord) : (s.flushReady txRest).active = s.active := by
  simp [State.flushReady, State.burstReady]

/-- Settles O31: the frame is built, the break driven, the frame's bytes handed over, the flush and the space served. -/
theorem sendFrameSendsTheFrame : Obligations.SendFrameSendsTheFrame := by
  intro s d oks txRest flRest hi ht h1 h8 hd hoks hok hans hfl
  have hlen := frameList_length s.ops h8
  have hbreak : Host.Core.run Sys2Proof.core 5 ((s.accept .sendFrame).setStep 1).buildFrame = .next s.burstReady :=
    run_sendFrame_break rfl rfl rfl ht
  have hburst : Host.Core.run Sys2Proof.core s.ops.frameList.length s.burstReady = .next (s.flushReady txRest) := by
    refine run_burst rfl rfl rfl ht (List.ne_nil_of_length_pos (by omega)) ?_ (fun i hi => ?_) (hoks.trans hlen.symm) hok hans
    · rw [hlen, ← frameLen_toNat h8]
      exact Nat.zero_add _
    · rw [← frameBytes_get_eq_frameList s.ops h8 (hlen ▸ hi)]
      exact congrArg (s.ops.frameBytes[·]?) (Nat.zero_add i)
  have hend := run_sendFrame_end (u := s.flushReady txRest) rfl rfl rfl ht (by rw [flushReady_active, hd]) hfl
  refine ⟨_, exec_sendFrame_eq hi h1 h8 hd, ?_⟩
  rw [show 10 + s.ops.len.toNat = 5 + (s.ops.frameList.length + 2) by omega]
  refine (run_add 5 _ hbreak).trans ((run_add _ 2 hburst).trans (hend.trans ?_))
  simp [State.flushReady, State.burstReady, State.waited, State.pulsed, State.setStep, State.complete, State.record,
    Operands.frameList, syncByte]

/-! ### READ_FRAME up to its first poll (R231) -/

/-- READ_FRAME at its first header byte: the leading space and the break are over (R232, R233). -/
def State.headerReady (s : State) (d : Nat) : State :=
  ((((((s.accept .readFrame).setTxi 0).setStep 1).waited d).setStep 2).pulsed s.active.breakNs s.active.bitNs).setStep 6

theorem headerReady_active (s : State) (d : Nat) : (s.headerReady d).active = s.active := by
  simp [State.headerReady]

theorem exec_readFrame_eq {s : State} (hi : s.ctl.eng = .idle) (h1 : 1 ≤ s.ops.len.toNat) (h8 : s.ops.len.toNat ≤ 8) {d r : Nat}
    (hd : s.active.ifsNs = some d) (hr : s.active.rtoNs = some r) :
    exec .readFrame s = .next ((((s.accept .readFrame).setTxi 0).setStep 1).loadDelay (BitVec.ofNat 32 d)) := by
  rw [exec_readFrame_of_checked hi ((precheckReadFrame_none_iff s).2 ⟨h1, h8, ⟨d, hd⟩, r, hr⟩)]
  have ha : (((s.accept .readFrame).setTxi 0).setStep 1).action = .delay (some d) := congrArg Action.delay hd
  rw [enterStep_of_action ha]
  rfl

/-- The leading space and the break take five steps. -/
theorem run_readFrame_break {s : State} {d : Nat} (ht : s.env.turns = []) (hd : s.active.ifsNs = some d) :
    Host.Core.run Sys2Proof.core 5 ((((s.accept .readFrame).setTxi 0).setStep 1).loadDelay (BitVec.ofNat 32 d))
      = .next (s.headerReady d) := by
  have hspace := step_loadDelay (s := ((s.accept .readFrame).setTxi 0).setStep 1) ht (congrArg Action.delay hd) (policyNs_lt hd)
  rw [nextStep_of_action (u := (((s.accept .readFrame).setTxi 0).setStep 1).waited d) (k := 2) (a := .line s.cfg.assertLevel)
    rfl rfl] at hspace
  have hpulse := run_pulse (s := ((((s.accept .readFrame).setTxi 0).setStep 1).waited d).setStep 2) ht (breakNs_lt s.active)
    (bitNs_lt s.active) rfl rfl rfl rfl
  exact (run_succ 4 hspace).trans hpulse

section Header

variable {u : State} {r : Nat} (hb : u.ctl.eng = .busy) (ho : u.ctl.curOp = .readFrame) (ht : u.env.turns = [])
  (hr : u.active.rtoNs = some r)
include hb ho ht hr

/-- The two header bytes take two steps, and the response timeout begins (R234). -/
theorem run_header {e0 e1 : Byte} {rest : List TxWord} (hk : u.ctl.stepNo = 6)
    (hans : u.env.txAns = { ans := 0, err := e0 } :: { ans := 0, err := e1 } :: rest) :
    Host.Core.run Sys2Proof.core 2 u = .next (State.loadDelay { u with
      ctl := { u.ctl with stepNo := 8, txi := u.ctl.txi + 1 + 1 }
      env := { u.env with txAns := rest, trace := u.env.trace ++ [.tx 0x55 .ok, .tx u.ops.id .ok] } } (BitVec.ofNat 32 r)) := by
  have hsync := step_txOk ht (action_readFrame_sync hb ho hk) hans rfl
  rw [txTaken_last, nextStep_of_header_sync (by exact hb) (by exact ho) (by exact hk)] at hsync
  have hid := step_txOk (s := { u with
      ctl := { u.ctl with stepNo := 7, txi := u.ctl.txi + 1 }
      env := { u.env with txAns := { ans := 0, err := e1 } :: rest, trace := u.env.trace ++ [.tx 0x55 .ok] } })
    ht (action_readFrame_id hb ho rfl) rfl rfl
  rw [txTaken_last, nextStep_of_header_id (by exact hb) (by exact ho) rfl (by exact hr)] at hid
  rw [two_records]
  exact (run_succ 1 hsync).trans (run_succ 0 hid)

/-- At the end of the response timeout the parse loop begins (R238). -/
theorem step_timeout (hk : u.ctl.stepNo = 8) :
    step (u.loadDelay (BitVec.ofNat 32 r)) = .next ((u.waited r).setStep 9).initParser := by
  have ha : u.action = .delay (some r) := by
    rw [action_readFrame hb ho, hk]
    exact congrArg Action.delay hr
  have hparse : ((u.waited r).setStep 9).action = .parse := action_readFrame (s := (u.waited r).setStep 9) hb ho
  rw [step_loadDelay ht ha (policyNs_lt hr), nextStep_of_action (k := 9) (by rw [waited_ctl, hk]; rfl) hparse]
  rfl

end Header

/-- Settles O36: the leading space and the break, then the header's two bytes and the timeout. -/
theorem readFrameReachesTheParse : Obligations.ReadFrameReachesTheParse := by
  intro s d r hi h1 h8 hd hr
  refine ⟨_, exec_readFrame_eq hi h1 h8 hd hr, rfl, fun e0 e1 txRest ht hans => ?_⟩
  have hbreak := run_readFrame_break ht hd
  have hheader := run_header (u := s.headerReady d) rfl rfl ht (by rw [headerReady_active, hr]) rfl hans
  have htimeout := step_timeout (r := r) (u := { s.headerReady d with
      ctl := { (s.headerReady d).ctl with stepNo := 8, txi := (s.headerReady d).ctl.txi + 1 + 1 }
      env := { (s.headerReady d).env with
        txAns := txRest, trace := (s.headerReady d).env.trace ++ [.tx 0x55 .ok, .tx s.ops.id .ok] } })
    rfl rfl ht (by rw [← hr]; exact congrArg Profile.rtoNs (headerReady_active s d)) rfl
  refine (run_add 5 3 hbreak).trans ((run_add 2 1 hheader).trans ((run_succ 0 htimeout).trans ?_))
  simp [State.headerReady, State.waited, State.pulsed, State.setStep]
  rfl

end Sys2Proof.Machine
end

section
/-! PROOFS. READ_FRAME's parse loop over a stream of bytes (43_resync_parser.md): one poll at a time, the scan for the header,
the data bytes, what ends the parse and the result that it ends with. -/

namespace Sys2Proof.Machine

/-! ### One poll answered by a byte -/

/-- The engine left to itself at READ_FRAME's parse loop. -/
structure Parsing (s : State) : Prop where
  eng : s.ctl.eng = .busy
  op : s.ctl.curOp = .readFrame
  stepNo : s.ctl.stepNo = 9
  turns : s.env.turns = []

/-- The polls that the bytes bs answered have left the parser's registers at p, BUF at v and the answers at l. -/
def State.polled (s : State) (bs : List Byte) (p : Parser) (v : Vector Byte 8) (l : List RxWord) : State :=
  { s with
    parser := p
    buf := v
    env := { s.env with rxAns := l, trace := s.env.trace ++ bs.map (.rx <| .byte ·) } }

section Polled

variable {s : State} {bs : List Byte} {p : Parser} {v : Vector Byte 8} {l : List RxWord}

@[simp] theorem polled_parser : (s.polled bs p v l).parser = p := rfl
@[simp] theorem polled_buf : (s.polled bs p v l).buf = v := rfl
@[simp] theorem polled_ops : (s.polled bs p v l).ops = s.ops := rfl

/-- No byte has been polled. -/
theorem polled_nil (h : s.env.rxAns = l) : s.polled [] s.parser s.buf l = s := by
  simp [State.polled, ← h]

/-- Polls after polls. -/
theorem polled_polled (bs' : List Byte) (p' : Parser) (v' : Vector Byte 8) (l' : List RxWord) :
    (s.polled bs p v l).polled bs' p' v' l' = s.polled (bs ++ bs') p' v' l' := by
  simp [State.polled]

theorem Parsing.polled (h : Parsing s) : Parsing (s.polled bs p v l) := ⟨h.eng, h.op, h.stepNo, h.turns⟩

end Polled

namespace Parsing

variable {s : State} (hs : Parsing s) {b : Byte} {rest : List RxWord}
include hs

theorem polling {p : Phase} (hp : s.parser.phase = p) (hd : p ≠ .done) : s.polling = true :=
  polling_of_phase hs.eng hs.op hs.stepNo hp hd

/-- A step that polls a byte runs the row that the byte is read as. -/
theorem step_byte {i : Instr} (hd : s.parser.phase ≠ .done) (hn : s.rxNext = some (⟨1, b, 0⟩, rest))
    (hi : decodeRxByte s.view b = .ok i) : step s = exec i (s.setRxAns rest) :=
  step_poll hs.turns (hs.polling rfl hd) hn ((decodeRx_of_kind_one hd b 0).trans hi)

theorem step_sync (hp : s.parser.phase = .awaitSync) (hn : s.rxNext = some (⟨1, 0x55, 0⟩, rest)) :
    step s = .next (s.polled [0x55] { s.parser with syncSeen := true, phase := .awaitId } s.buf rest) := by
  rw [hs.step_byte (by simp [hp]) hn (i := .rxByteAwaitSyncSync 0x55) (by simp [decodeRxByte, State.view, hp, syncByte])]
  exact exec_awaitSync_sync (hs.polling hp (by decide)) hp rfl

theorem step_other (hp : s.parser.phase = .awaitSync) (hn : s.rxNext = some (⟨1, b, 0⟩, rest)) (hb : b ≠ 0x55) :
    step s = .next (s.polled [b] s.parser s.buf rest) := by
  rw [hs.step_byte (by simp [hp]) hn (i := .rxByteAwaitSyncOther b)
    (by simp only [decodeRxByte, State.view, hp]; exact if_neg hb)]
  exact exec_awaitSync_other (hs.polling hp (by decide)) hp hb

theorem step_match (hp : s.parser.phase = .awaitId) (hn : s.rxNext = some (⟨1, s.ops.id, 0⟩, rest)) :
    step s = .next (s.polled [s.ops.id] { s.parser with phase := .readData } s.buf rest) := by
  rw [hs.step_byte (by simp [hp]) hn (i := .rxByteAwaitIdMatch s.ops.id) (by simp [decodeRxByte, State.view, hp])]
  exact exec_awaitId_match (s := s.setRxAns rest) (hs.polling hp (by decide)) hp rfl

theorem step_mismatch (hp : s.parser.phase = .awaitId) (hn : s.rxNext = some (⟨1, b, 0⟩, rest)) (hb : b ≠ s.ops.id) :
    step s = .next (s.polled [b] { s.parser with phase := .awaitSync } s.buf rest) := by
  rw [hs.step_byte (by simp [hp]) hn (i := .rxByteAwaitIdMismatch b) (by simp [decodeRxByte, State.view, hp, hb])]
  exact exec_awaitId_mismatch (hs.polling hp (by decide)) hp hb

theorem step_more (hp : s.parser.phase = .readData) (hn : s.rxNext = some (⟨1, b, 0⟩, rest))
    (hc : s.parser.count.toNat + 1 < s.ops.len.toNat) :
    step s = .next (s.polled [b] { s.parser with count := s.parser.count + 1 }
      (s.buf.setIfInBounds s.parser.count.toNat b) rest) := by
  rw [hs.step_byte (by simp [hp]) hn (i := .rxByteReadDataMore b) (by simp [decodeRxByte, State.view, hp, hc])]
  exact exec_readData_more (s := s.setRxAns rest) (hs.polling hp (by decide)) hp hc

theorem step_last (hp : s.parser.phase = .readData) (hn : s.rxNext = some (⟨1, b, 0⟩, rest))
    (hc : s.parser.count.toNat + 1 = s.ops.len.toNat) :
    step s = .next (s.polled [b] { s.parser with count := s.ops.len, phase := .awaitChecksum }
      (s.buf.setIfInBounds s.parser.count.toNat b) rest) := by
  rw [hs.step_byte (by simp [hp]) hn (i := .rxByteReadDataLast b) (by simp [decodeRxByte, State.view, hp, hc]),
    ← count_succ_eq_len hc]
  exact exec_readData_last (s := s.setRxAns rest) (hs.polling hp (by decide)) hp hc

/-- The byte after the data ends the parse, and the trailing inter-frame space begins (R208, R231). -/
theorem step_checksum {d : Nat} (hd : s.active.ifsNs = some d) (hp : s.parser.phase = .awaitChecksum)
    (hn : s.rxNext = some (⟨1, b, 0⟩, rest)) :
    step s = .next (((s.polled [b] { s.parser with chk := b, phase := .done } s.buf rest).setStep 10).loadDelay
      (BitVec.ofNat 32 d)) := by
  rw [hs.step_byte (by simp [hp]) hn (i := .rxByteAwaitChecksum b) (by simp [decodeRxByte, State.view, hp]),
    exec_awaitChecksum (s := s.setRxAns rest) (hs.polling hp (by decide)) b hp,
    nextStep_of_parse (by exact hs.eng) (by exact hs.op) (by exact hs.stepNo) (by exact hd)]
  rfl

/-- A silent transport ends the parse in any phase (R209, R231). -/
theorem step_silent {d : Nat} (hd : s.active.ifsNs = some d) (hp : s.parser.phase ≠ .done)
    (hn : s.rxNext = some (⟨0, 0, 0⟩, rest)) :
    step s = .next ((((s.setRxAns rest).record (.rx .wouldBlock)).setStep 10).loadDelay (BitVec.ofNat 32 d)) := by
  rw [step_poll hs.turns (hs.polling rfl hp) hn (decodeRx_of_kind_zero hp 0 0),
    exec_rxWouldBlock_of_polling (s := s.setRxAns rest) (hs.polling rfl hp),
    nextStep_of_parse (by exact hs.eng) (by exact hs.op) (by exact hs.stepNo) (by exact hd)]

/-- A 0x55 and the id are the header (R202, R204). -/
theorem run_sync_match {id : Byte} (hid : s.ops.id = id) (hp : s.parser.phase = .awaitSync)
    (hans : s.env.rxAns = ⟨1, 0x55, 0⟩ :: ⟨1, id, 0⟩ :: rest) :
    Host.Core.run Sys2Proof.core 2 s =
      .next (s.polled [0x55, id] { s.parser with syncSeen := true, phase := .readData } s.buf rest) := by
  subst hid
  have hmatch := step_match (rest := rest) (s := s.polled [0x55] { s.parser with syncSeen := true, phase := .awaitId } s.buf
    (⟨1, s.ops.id, 0⟩ :: rest)) hs.polled rfl (rxNext_of_cons rfl)
  rw [polled_polled] at hmatch
  exact (run_succ 1 (hs.step_sync hp (rxNext_of_cons hans))).trans (run_succ 0 hmatch)

/-- A 0x55 and another byte than the id are passed over together (R202, R205). -/
theorem run_sync_mismatch (hb : b ≠ s.ops.id) (hp : s.parser.phase = .awaitSync)
    (hans : s.env.rxAns = ⟨1, 0x55, 0⟩ :: ⟨1, b, 0⟩ :: rest) :
    Host.Core.run Sys2Proof.core 2 s =
      .next (s.polled [0x55, b] { s.parser with syncSeen := true, phase := .awaitSync } s.buf rest) := by
  have hmis := step_mismatch (b := b) (rest := rest) (s := s.polled [0x55] { s.parser with syncSeen := true, phase := .awaitId }
    s.buf (⟨1, b, 0⟩ :: rest)) hs.polled rfl (rxNext_of_cons rfl) hb
  rw [polled_polled] at hmis
  exact (run_succ 1 (hs.step_sync hp (rxNext_of_cons hans))).trans (run_succ 0 hmis)

end Parsing

/-! ### A bus that babbles (70_reset_and_hazards.md section 3) -/

/-- The next answer where the transport holds bytes. -/
theorem rxNext_of_bytes {s : State} {b : Byte} {bs : List Byte} {rest : List RxWord}
    (h : s.env.rxAns = byteAnswers (b :: bs) ++ rest) : s.rxNext = some (⟨1, b, 0⟩, byteAnswers bs ++ rest) :=
  rxNext_of_cons h

/-- Settles O46, by induction on the bytes: each is passed over by step_other. -/
theorem babblingBusKeepsPolling : Obligations.BabblingBusKeepsPolling := by
  intro s bs rest hb ho hk ht hp hne hans
  induction bs generalizing s with
  | nil => exact congrArg Host.Outcome.next (polled_nil hans).symm
  | cons b bs ih =>
    obtain ⟨hb55, hne⟩ := List.forall_mem_cons.1 hne
    have hstep := Parsing.step_other ⟨hb, ho, hk, ht⟩ hp (rxNext_of_bytes hans) hb55
    have hrest := ih (s.polled [b] s.parser s.buf (byteAnswers bs ++ rest)) hb ho hk ht hp hne rfl
    exact (run_succ bs.length hstep).trans
      (hrest.trans (congrArg Host.Outcome.next (polled_polled bs s.parser s.buf rest)))

/-- The j-th byte of a transport that answers by bs and then by cs over and over. -/
def streamAt (bs cs : List Byte) (j : Nat) : Option Byte :=
  if j < bs.length then bs[j]? else cs[(j - bs.length) % cs.length]?

theorem streamAt_cons_succ (b : Byte) (bs cs : List Byte) (j : Nat) : streamAt (b :: bs) cs (j + 1) = streamAt bs cs j := by
  simp [streamAt]

/-- A transport whose list is used up goes on with the repeated one. -/
theorem streamAt_nil {cs : List Byte} (h : cs ≠ []) (j : Nat) : streamAt [] cs j = streamAt cs cs j := by
  have hpos := List.length_pos_iff.2 h
  simp only [streamAt, List.length_nil, Nat.not_lt_zero, if_false, Nat.sub_zero]
  split
  · rw [Nat.mod_eq_of_lt ‹_›]
  · rw [← Nat.mod_eq_sub_mod (by omega)]

/-- One more poll: the list that the transport answers from holds at least one byte. -/
theorem run_endless_cons {s : State} {b : Byte} {bs cs es : List Byte} {l : List RxWord} {k : Nat} (hs : Parsing s)
    (hp : s.parser.phase = .awaitSync) (hb : b ≠ 0x55) (hn : s.rxNext = some (⟨1, b, 0⟩, byteAnswers bs))
    (hlen : es.length = k) (hes : ∀ j, j < k → es[j]? = streamAt bs cs j)
    (hrun : Host.Core.run Sys2Proof.core k (s.polled [b] s.parser s.buf (byteAnswers bs)) =
      .next ((s.polled [b] s.parser s.buf (byteAnswers bs)).polled es s.parser s.buf l)) :
    (b :: es).length = k + 1 ∧ (∀ j, j < k + 1 → (b :: es)[j]? = streamAt (b :: bs) cs j) ∧
      Host.Core.run Sys2Proof.core (k + 1) s = .next (s.polled (b :: es) s.parser s.buf l) := by
  refine ⟨by simp [hlen], fun j hj => ?_, ?_⟩
  · cases j with
    | zero => simp [streamAt]
    | succ j => simpa [streamAt_cons_succ] using hes j (by omega)
  · rw [run_succ k (hs.step_other hp hn hb), hrun, polled_polled]
    rfl

/-- k polls of an endless transport, by induction on k. -/
theorem run_endless {cs : List Byte} (hcs : ∀ b ∈ cs, b ≠ 0x55) (hne : cs ≠ []) (k : Nat) {s : State} {bs : List Byte}
    (hs : Parsing s) (hp : s.parser.phase = .awaitSync) (hbs : ∀ b ∈ bs, b ≠ 0x55) (hans : s.env.rxAns = byteAnswers bs)
    (hloop : s.env.rxLoop = byteAnswers cs) :
    ∃ l es, es.length = k ∧ (∀ j, j < k → es[j]? = streamAt bs cs j) ∧
      Host.Core.run Sys2Proof.core k s = .next (s.polled es s.parser s.buf l) := by
  induction k generalizing s bs with
  | zero => exact ⟨_, [], rfl, by simp, congrArg Host.Outcome.next (polled_nil rfl).symm⟩
  | succ k ih =>
    cases bs with
    | cons b bs =>
      obtain ⟨hb, hbs⟩ := List.forall_mem_cons.1 hbs
      obtain ⟨l, es, hlen, hes, hrun⟩ :=
        ih (s := s.polled [b] s.parser s.buf (byteAnswers bs)) hs.polled hp hbs rfl hloop
      exact ⟨l, b :: es, run_endless_cons hs hp hb (rxNext_of_cons hans) hlen hes hrun⟩
    | nil =>
      simp only [streamAt_nil hne]
      obtain ⟨c, cs', rfl⟩ := List.exists_cons_of_ne_nil hne
      obtain ⟨hc, hcs'⟩ := List.forall_mem_cons.1 hcs
      obtain ⟨l, es, hlen, hes, hrun⟩ :=
        ih (s := s.polled [c] s.parser s.buf (byteAnswers cs')) hs.polled hp hcs' rfl hloop
      exact ⟨l, c :: es, run_endless_cons hs hp hc (rxNext_of_loop hans hloop) hlen hes hrun⟩

/-- Settles O47. -/
theorem endlessStreamNeverEnds : Obligations.EndlessStreamNeverEnds := by
  intro s bs cs k hb ho hk ht hp hbs hcs hne hans hloop
  exact run_endless hcs hne k ⟨hb, ho, hk, ht⟩ hp hbs hans hloop

/-! ### The scan for the header (R202 to R205) -/

/-- The scan over a stream without a header takes every byte and is still looking; SYNC_SEEN says whether a 0x55 came. -/
theorem run_scan_none {id : Byte} {bs : List Byte} {rest : List RxWord} {s : State} (hs : Parsing s)
    (hp : s.parser.phase = .awaitSync) (hid : s.ops.id = id) (hans : s.env.rxAns = byteAnswers bs ++ rest)
    (h : headerTail id bs = none) :
    ∃ ph, (ph = .awaitSync ∨ ph = .awaitId) ∧ Host.Core.run Sys2Proof.core bs.length s = .next
      (s.polled bs { s.parser with phase := ph, syncSeen := s.parser.syncSeen || decide (syncByte ∈ bs) } s.buf rest) := by
  induction bs using headerTail.induct id generalizing s with
  | case1 =>
    refine ⟨.awaitSync, .inl rfl, ?_⟩
    simp only [List.not_mem_nil, decide_false, Bool.or_false, ← hp]
    exact congrArg Host.Outcome.next (polled_nil hans).symm
  | case2 b =>
    by_cases hb : b = syncByte
    · subst hb
      refine ⟨.awaitId, .inr rfl, ?_⟩
      rw [decide_eq_true (List.mem_singleton_self _), Bool.or_true]
      exact run_succ 0 (hs.step_sync hp (rxNext_of_bytes hans))
    · refine ⟨.awaitSync, .inl rfl, ?_⟩
      rw [decide_eq_false (by simpa using Ne.symm hb), Bool.or_false, ← hp]
      exact run_succ 0 (hs.step_other hp (rxNext_of_bytes hans) hb)
  | case3 b x r hb ih =>
    rw [headerTail, if_pos hb] at h
    obtain ⟨ph, hph, hrun⟩ := ih (s := s.polled [b] s.parser s.buf (byteAnswers (x :: r) ++ rest)) hs.polled hp hid rfl h
    rw [polled_polled] at hrun
    refine ⟨ph, hph, ?_⟩
    rw [List.length_cons, run_succ _ (hs.step_other hp (rxNext_of_bytes hans) hb), hrun]
    simp [Ne.symm hb]
  | case4 b r hb =>
    rw [headerTail, if_neg hb, if_pos rfl] at h
    cases h
  | case5 b x r hb hx ih =>
    obtain rfl : b = syncByte := not_not.1 hb
    rw [headerTail, if_neg hb, if_neg hx] at h
    obtain ⟨ph, hph, hrun⟩ := ih (s := s.polled [syncByte, x] { s.parser with syncSeen := true, phase := .awaitSync } s.buf
      (byteAnswers r ++ rest)) hs.polled rfl hid rfl h
    rw [polled_polled] at hrun
    refine ⟨ph, hph, ?_⟩
    rw [List.length_cons, List.length_cons, Nat.add_assoc, Nat.add_comm,
      run_add 2 _ (hs.run_sync_mismatch (by rw [hid]; exact hx) hp hans)]
    refine hrun.trans ?_
    simp

/-- The scan over a stream with a header takes the bytes up to it and leaves those after it in the transport. -/
theorem run_scan_some {id : Byte} {bs d : List Byte} {rest : List RxWord} {s : State} (hs : Parsing s)
    (hp : s.parser.phase = .awaitSync) (hid : s.ops.id = id) (hans : s.env.rxAns = byteAnswers bs ++ rest)
    (h : headerTail id bs = some d) :
    ∃ pre, bs = pre ++ d ∧ Host.Core.run Sys2Proof.core pre.length s = .next
      (s.polled pre { s.parser with phase := .readData, syncSeen := true } s.buf (byteAnswers d ++ rest)) := by
  induction bs using headerTail.induct id generalizing s with
  | case1 => cases h
  | case2 b => cases h
  | case3 b x r hb ih =>
    rw [headerTail, if_pos hb] at h
    obtain ⟨pre, hpre, hrun⟩ := ih (s := s.polled [b] s.parser s.buf (byteAnswers (x :: r) ++ rest)) hs.polled hp hid rfl h
    rw [polled_polled] at hrun
    exact ⟨b :: pre, congrArg _ hpre, (run_succ _ (hs.step_other hp (rxNext_of_bytes hans) hb)).trans hrun⟩
  | case4 b r hb =>
    obtain rfl : b = syncByte := not_not.1 hb
    rw [headerTail, if_neg hb, if_pos rfl] at h
    obtain rfl := Option.some.inj h
    exact ⟨[syncByte, id], rfl, hs.run_sync_match hid hp hans⟩
  | case5 b x r hb hx ih =>
    obtain rfl : b = syncByte := not_not.1 hb
    rw [headerTail, if_neg hb, if_neg hx] at h
    obtain ⟨pre, hpre, hrun⟩ := ih (s := s.polled [syncByte, x] { s.parser with syncSeen := true, phase := .awaitSync } s.buf
      (byteAnswers r ++ rest)) hs.polled rfl hid rfl h
    rw [polled_polled] at hrun
    refine ⟨syncByte :: x :: pre, by rw [hpre]; rfl, ?_⟩
    rw [List.length_cons, List.length_cons, Nat.add_assoc, Nat.add_comm,
      run_add 2 _ (hs.run_sync_mismatch (by rw [hid]; exact hx) hp hans)]
    exact hrun

/-! ### The data bytes (R206, R207) -/

/-- The phase after c data bytes of n. -/
def dataPhase (c n : Nat) : Phase := if c = n then .awaitChecksum else .readData

theorem dataPhase_ne_done (c n : Nat) : dataPhase c n ≠ .done := by
  unfold dataPhase
  split <;> simp

/-- BUF with the bytes l stored from position c on. -/
def storedAt (v : Vector Byte 8) (c : Nat) : List Byte → Vector Byte 8
  | [] => v
  | b :: l => storedAt (v.setIfInBounds c b) (c + 1) l

theorem storedAt_get (v : Vector Byte 8) (c : Nat) (l : List Byte) (h : c + l.length ≤ 8) (j : Nat) :
    (storedAt v c l)[j]? = if c ≤ j ∧ j < c + l.length then l[j - c]? else v[j]? := by
  induction l generalizing v c with
  | nil => simp [storedAt]
  | cons b l ih =>
    simp only [List.length_cons] at h ⊢
    rw [storedAt, ih _ _ (by omega), Vector.getElem?_setIfInBounds]
    obtain hj | rfl | hj : j < c ∨ c = j ∨ c + 1 ≤ j := by omega
    · rw [if_neg (by omega), if_neg (by omega), if_neg (by omega)]
    · rw [if_neg (by omega), if_pos rfl, if_pos (by omega), if_pos (by omega), Nat.sub_self]
      rfl
    · rw [if_neg (show ¬c = j by omega), show j - c = j - (c + 1) + 1 by omega, List.getElem?_cons_succ]
      exact if_congr (by omega) rfl rfl

/-- BUF with the bytes l from position 0. -/
theorem storedAt_zero_get (v : Vector Byte 8) (l : List Byte) (h : l.length ≤ 8) (j : Nat) :
    (storedAt v 0 l)[j]? = if j < l.length then l[j]? else v[j]? := by
  rw [storedAt_get v 0 l (by omega)]
  simp

/-- Up to OP_LEN data bytes, one poll each. -/
theorem run_data {l : List Byte} {s : State} {rest : List RxWord} (hs : Parsing s) (hp : s.parser.phase = .readData)
    (hc : s.parser.count.toNat < s.ops.len.toNat) (hl : s.parser.count.toNat + l.length ≤ s.ops.len.toNat)
    (hans : s.env.rxAns = byteAnswers l ++ rest) :
    Host.Core.run Sys2Proof.core l.length s = .next (s.polled l
      { s.parser with
        phase := dataPhase (s.parser.count.toNat + l.length) s.ops.len.toNat
        count := BitVec.ofNat 4 (s.parser.count.toNat + l.length) }
      (storedAt s.buf s.parser.count.toNat l) rest) := by
  induction l generalizing s with
  | nil =>
    rw [List.length_nil, run_zero, Nat.add_zero, dataPhase, if_neg (by omega), BitVec.ofNat_toNat, BitVec.setWidth_eq, ← hp]
    exact congrArg Host.Outcome.next (polled_nil hans).symm
  | cons b l ih =>
    simp only [List.length_cons] at hl ⊢
    have hlt := s.ops.len.isLt
    by_cases hlast : s.parser.count.toNat + 1 = s.ops.len.toNat
    · obtain rfl : l = [] := List.eq_nil_of_length_eq_zero (by omega)
      rw [List.length_nil, Nat.zero_add, hlast, dataPhase, if_pos rfl, BitVec.ofNat_toNat, BitVec.setWidth_eq]
      exact run_succ 0 (hs.step_last hp (rxNext_of_bytes hans) hlast)
    · have hsucc : (s.parser.count + 1).toNat = s.parser.count.toNat + 1 := by bv_omega
      have hrest := ih (s := s.polled [b] { s.parser with count := s.parser.count + 1 }
        (s.buf.setIfInBounds s.parser.count.toNat b) (byteAnswers l ++ rest)) hs.polled hp (by simp; omega) (by simp; omega) rfl
      rw [polled_polled] at hrest
      simp only [polled_parser, polled_ops, polled_buf, hsucc, Nat.add_assoc, Nat.add_comm 1] at hrest
      exact (run_succ _ (hs.step_more hp (rxNext_of_bytes hans) (by omega))).trans hrest

/-- The data bytes from the first on. -/
theorem run_data_from_zero {l : List Byte} {s : State} {rest : List RxWord} (hs : Parsing s) (hp : s.parser.phase = .readData)
    (hc : s.parser.count = 0) (h1 : 1 ≤ s.ops.len.toNat) (hl : l.length ≤ s.ops.len.toNat)
    (hans : s.env.rxAns = byteAnswers l ++ rest) :
    Host.Core.run Sys2Proof.core l.length s = .next (s.polled l
      { s.parser with phase := dataPhase l.length s.ops.len.toNat, count := BitVec.ofNat 4 l.length }
      (storedAt s.buf 0 l) rest) := by
  have h0 : s.parser.count.toNat = 0 := by rw [hc]; rfl
  have hdata := run_data hs hp (by omega) (by omega) hans
  rwa [h0, Nat.zero_add] at hdata

/-- All the data bytes: the checksum is awaited and COUNT is OP_LEN. -/
theorem run_data_all {l : List Byte} {s : State} {rest : List RxWord} (hs : Parsing s) (hp : s.parser.phase = .readData)
    (hc : s.parser.count = 0) (h1 : 1 ≤ s.ops.len.toNat) (hl : l.length = s.ops.len.toNat)
    (hans : s.env.rxAns = byteAnswers l ++ rest) :
    Host.Core.run Sys2Proof.core l.length s = .next (s.polled l
      { s.parser with phase := .awaitChecksum, count := s.ops.len } (storedAt s.buf 0 l) rest) := by
  rw [run_data_from_zero hs hp hc h1 hl.le hans, dataPhase, if_pos hl, hl, BitVec.ofNat_toNat, BitVec.setWidth_eq]

/-! ### A frame that is read back (43_resync_parser.md section 6) -/

/-- Settles O45: header, data bytes and checksum in turn. -/
theorem sentFrameIsReadBack : Obligations.SentFrameIsReadBack := by
  intro s d data c rest hb ho hk ht hd hp h1 h8 hlen hans
  have hs : Parsing s := ⟨hb, ho, hk, ht⟩
  have hans' : s.env.rxAns = ⟨1, 0x55, 0⟩ :: ⟨1, s.ops.id, 0⟩ :: (byteAnswers data ++ ⟨1, c, 0⟩ :: rest) := by
    simp [hans, byteAnswers]
  have hheader := hs.run_sync_match rfl (by rw [hp]) hans'
  rw [hp] at hheader
  have hdata := run_data_all (l := data) (rest := ⟨1, c, 0⟩ :: rest) (s := s.polled [0x55, s.ops.id]
    ⟨.readData, true, 0, 0, false, 0⟩ s.buf _) hs.polled rfl rfl (by rw [polled_ops, hlen]; exact h1) hlen.symm rfl
  rw [polled_polled] at hdata
  have hchk := Parsing.step_checksum (s := s.polled ([0x55, s.ops.id] ++ data) ⟨.awaitChecksum, true, s.ops.len, 0, false, 0⟩
    (storedAt s.buf 0 data) (⟨1, c, 0⟩ :: rest)) hs.polled hd rfl (rxNext_of_cons rfl)
  rw [polled_polled] at hchk
  refine ⟨storedAt s.buf 0 data, ?_, toList_of_get (storedAt_zero_get _ _ h8)⟩
  rw [show data.length + 3 = 2 + (data.length + 1) by omega, run_add 2 _ hheader, run_add _ 1 hdata]
  exact run_succ 0 hchk

/-! ### The end of a READ_FRAME (R240, R213) -/

@[simp] theorem serveDelay_parser (s : State) : s.serveDelay.parser = s.parser := rfl

/-- The end of the trailing delay selects the result. -/
theorem step_select {s : State} (hb : s.ctl.eng = .busy) (ho : s.ctl.curOp = .readFrame) (hk : s.ctl.stepNo = 10)
    (ht : s.env.turns = []) : step s = .next (s.serveDelay.setStep 11).selectResult := by
  have ha : s.action = .delay s.active.ifsNs := by
    rw [action_readFrame hb ho, hk]
    rfl
  have ha' : (s.serveDelay.setStep 11).action = .select := action_readFrame (s := s.serveDelay.setStep 11) hb ho
  rw [step_of_no_turn ht (not_halted_of_action (by simp [ha])), engineMove_delay ha,
    nextStep_of_action (show s.serveDelay.ctl.stepNo + 1 = 11 by rw [show s.serveDelay.ctl.stepNo = 10 from hk]; rfl) ha']
  rfl

/-- R_CODE, R_COUNT and R_CHK as the parser's registers give them where no read error stopped it (R213, R50). -/
def Parser.outcome (p : Parser) : RCode × BitVec 4 × Byte :=
  if p.syncSeen = false then (.syncByteNotReceivedBack, 0, 0)
  else match p.phase with
    | .awaitSync => (.idByteNotReceivedBack, 0, 0)
    | .awaitId => (.idByteNotReceivedBack, 0, 0)
    | .readData => if p.count = 0 then (.deviceTimeoutNoResponse, 0, 0) else (.onlyPartialResponse, p.count, 0)
    | .awaitChecksum => (.noChecksumReceived, 0, 0)
    | .done => (.ok, 0, p.chk)

namespace Parser

variable {p : Parser}

theorem outcome_of_unseen (h : p.syncSeen = false) : p.outcome = (.syncByteNotReceivedBack, 0, 0) := if_pos h

variable (hy : p.syncSeen = true)
include hy

theorem outcome_of_scan (hp : p.phase = .awaitSync ∨ p.phase = .awaitId) : p.outcome = (.idByteNotReceivedBack, 0, 0) := by
  rcases hp with hp | hp <;> simp [outcome, hy, hp]

theorem outcome_of_no_data (hp : p.phase = .readData) (hc : p.count = 0) : p.outcome = (.deviceTimeoutNoResponse, 0, 0) := by
  simp [outcome, hy, hp, hc]

theorem outcome_of_some_data (hp : p.phase = .readData) (hc : p.count ≠ 0) :
    p.outcome = (.onlyPartialResponse, p.count, 0) := by
  simp only [outcome, hy, hp, if_neg hc]
  rfl

theorem outcome_of_all_data (hp : p.phase = .awaitChecksum) : p.outcome = (.noChecksumReceived, 0, 0) := by
  simp [outcome, hy, hp]

theorem outcome_of_done (hp : p.phase = .done) : p.outcome = (.ok, 0, p.chk) := by
  simp [outcome, hy, hp]

end Parser

theorem selectResult_of_error {s : State} (h : s.parser.rxErrV = true) :
    s.selectResult = s.complete .transportError 0 0 s.parser.rxErr := if_pos h

theorem selectResult_of_no_error {s : State} (h : s.parser.rxErrV = false) :
    s.selectResult = s.complete s.parser.outcome.1 s.parser.outcome.2.1 s.parser.outcome.2.2 0 := by
  unfold State.selectResult State.classify Parser.outcome
  rw [h, if_neg Bool.false_ne_true]
  cases s.parser.syncSeen
  · rfl
  · cases s.parser.phase
    case readData =>
      by_cases hc : s.parser.count = 0
      · simp only [if_pos hc]
        rfl
      · simp only [if_neg hc]
        rfl
    all_goals rfl

/-- Settles O43: the selection ends the command either with RXERR or with the parser's outcome. -/
theorem readFrameResultSelection : Obligations.ReadFrameResultSelection := by
  intro s hb ho hk ht
  refine ⟨_, step_select hb ho hk ht, ?_⟩
  by_cases he : s.parser.rxErrV = true
  · rw [selectResult_of_error (by exact he)]
    exact ⟨rfl, rfl, rfl, rfl, rfl, fun _ => ⟨rfl, rfl, rfl, rfl⟩, fun h => by simp [he] at h⟩
  · rw [selectResult_of_no_error (by exact eq_false_of_ne_true he)]
    refine ⟨rfl, rfl, rfl, rfl, rfl, fun h => absurd h he, fun _ => ⟨rfl, fun hy => ?_, fun hy => ⟨?_, ?_, ?_, ?_, ?_⟩⟩⟩
    · simp [Parser.outcome_of_unseen hy]
    · intro hp; simp [Parser.outcome_of_scan hy hp]
    · rintro ⟨hp, hc⟩; simp [Parser.outcome_of_no_data hy hp hc]
    · rintro ⟨hp, hc⟩; simp [Parser.outcome_of_some_data hy hp hc]
    · intro hp; simp [Parser.outcome_of_all_data hy hp]
    · intro hp; simp [Parser.outcome_of_done hy hp]

/-! ### READ_FRAME over a stream with silence after it -/

/-- u has ended the command under way in s with the outcome o and no error; what the parse left in s stands. -/
def EndedWith (s u : State) (o : RCode × BitVec 4 × Byte) : Prop :=
  u.ctl.eng = .idle ∧ u.res.done = true ∧ (u.res.code, u.res.count, u.res.chk) = o ∧ u.res.err = 0 ∧ u.buf = s.buf ∧
    u.ops = s.ops ∧ u.frame = s.frame ∧ u.line = s.line ∧ u.active = s.active

theorem endedWith_select {s : State} (h : s.parser.rxErrV = false) :
    EndedWith s (s.serveDelay.setStep 11).selectResult s.parser.outcome := by
  rw [selectResult_of_no_error (by exact h)]
  exact ⟨rfl, rfl, rfl, rfl, rfl, rfl, rfl, rfl, rfl⟩

namespace Parsing

variable {s : State} (hs : Parsing s) {d : Nat} {rest : List RxWord} (hd : s.active.ifsNs = some d)
  (he : s.parser.rxErrV = false)
include hs hd he

/-- A silent transport ends the command in two steps, with what the parser has reached. -/
theorem run_silent_end (hp : s.parser.phase ≠ .done) (hans : s.env.rxAns = ⟨0, 0, 0⟩ :: rest) :
    ∃ u, Host.Core.run Sys2Proof.core 2 s = .next u ∧ EndedWith s u s.parser.outcome :=
  ⟨_, (run_succ 1 (hs.step_silent hd hp (rxNext_of_cons hans))).trans
    (run_succ 0 (step_select hs.eng hs.op rfl hs.turns)), endedWith_select he⟩

/-- A byte for the checksum ends the command in two steps, with Ok. -/
theorem run_checksum_end {b : Byte} (hp : s.parser.phase = .awaitChecksum) (hy : s.parser.syncSeen = true)
    (hans : s.env.rxAns = ⟨1, b, 0⟩ :: rest) :
    ∃ u, Host.Core.run Sys2Proof.core 2 s = .next u ∧ EndedWith s u (.ok, 0, b) := by
  refine ⟨_, (run_succ 1 (hs.step_checksum hd hp (rxNext_of_cons hans))).trans
    (run_succ 0 (step_select hs.eng hs.op rfl hs.turns)), ?_⟩
  have hend := endedWith_select (s := ((s.polled [b] { s.parser with chk := b, phase := .done } s.buf rest).setStep 10).loadDelay
    (BitVec.ofNat 32 d)) he
  rwa [Parser.outcome_of_done (by exact hy) rfl] at hend

end Parsing

/-- The bytes l stored in BUF from position 0, read position by position. -/
theorem storedAt_zero_getD (v : Vector Byte 8) (l : List Byte) (h : l.length ≤ 8) (j : Fin 8) :
    (storedAt v 0 l)[j] = l.getD j.val v[j] := by
  have hj := storedAt_zero_get v l h j.val
  rw [Vector.getElem?_eq_getElem j.isLt] at hj
  rw [List.getD_eq_getElem?_getD]
  split at hj
  · rw [← hj]
    rfl
  · rw [List.getElem?_eq_none (by omega)]
    rw [Vector.getElem?_eq_getElem j.isLt] at hj
    exact Option.some.inj hj

/-- A stream that is silent after bs. -/
theorem silentAfter_append (bs : List Byte) (rest : List RxWord) :
    silentAfter bs ++ rest = byteAnswers bs ++ ⟨0, 0, 0⟩ :: rest := by
  simp [silentAfter, byteAnswers]

/-- The answers before, at and after position n. -/
theorem byteAnswers_eq_of_lt {l : List Byte} {n : Nat} (h : n < l.length) :
    byteAnswers l = byteAnswers (l.take n) ++ ⟨1, l[n], 0⟩ :: byteAnswers (l.drop (n + 1)) := by
  conv_lhs => rw [← List.take_append_drop n l, List.drop_eq_getElem_cons h]
  exact List.map_append

theorem ofNat_ne_zero {k : Nat} (h0 : k ≠ 0) (h : k < 16) : BitVec.ofNat 4 k ≠ 0 := by
  bv_omega

/-- The outcome after up to n data bytes and silence, as streamOutcome says it. -/
theorem outcome_of_data {id : Byte} {n : Nat} {bs l : List Byte} {p : Parser} (h : headerTail id bs = some l) (h1 : 1 ≤ n)
    (h8 : n ≤ 8) (hl : l.length ≤ n) (hy : p.syncSeen = true) (hp : p.phase = dataPhase l.length n)
    (hc : p.count = BitVec.ofNat 4 l.length) : p.outcome = streamOutcome id n bs := by
  simp only [streamOutcome, h]
  obtain hlt | heq := hl.lt_or_eq
  · rw [dataPhase, if_neg hlt.ne] at hp
    by_cases h0 : l.length = 0
    · rw [if_pos h0, Parser.outcome_of_no_data hy hp (by rw [hc, h0]; rfl)]
    · rw [if_neg h0, if_pos hlt, Parser.outcome_of_some_data hy hp (hc ▸ ofNat_ne_zero h0 (by omega)), hc]
  · rw [dataPhase, if_pos heq] at hp
    rw [if_neg (by omega), if_neg (by omega), if_pos heq, Parser.outcome_of_all_data hy hp]

section Streams

variable {s : State} {d : Nat} {bs : List Byte} {rest : List RxWord} (hs : Parsing s) (hd : s.active.ifsNs = some d)
  (hp : s.parser = ⟨.awaitSync, false, 0, 0, false, 0⟩) (hans : s.env.rxAns = byteAnswers bs ++ ⟨0, 0, 0⟩ :: rest)
include hs hd hp hans

/-- No header: every byte is polled, then silence. -/
theorem run_stream_without_header (n : Nat) (h : headerTail s.ops.id bs = none) :
    ∃ u, Host.Core.run Sys2Proof.core (bs.length + 2) s = .next u ∧ EndedWith s u (streamOutcome s.ops.id n bs) := by
  obtain ⟨ph, hph, hscan⟩ := run_scan_none hs (by rw [hp]) rfl hans h
  rw [hp] at hscan
  have hend := Parsing.run_silent_end (s := s.polled bs ⟨ph, false || decide (syncByte ∈ bs), 0, 0, false, 0⟩ s.buf
    (⟨0, 0, 0⟩ :: rest)) hs.polled hd rfl (by rcases hph with rfl | rfl <;> simp) rfl
  have hout : Parser.outcome ⟨ph, false || decide (syncByte ∈ bs), 0, 0, false, 0⟩ = streamOutcome s.ops.id n bs := by
    simp only [streamOutcome, h]
    by_cases hm : syncByte ∈ bs
    · rw [if_pos hm, Parser.outcome_of_scan (by simp [hm]) hph]
    · rw [if_neg hm, Parser.outcome_of_unseen (by simp [hm])]
  rw [polled_parser, hout] at hend
  obtain ⟨u, hrun, hend⟩ := hend
  exact ⟨u, (run_add _ 2 hscan).trans hrun, hend⟩

variable (h1 : 1 ≤ s.ops.len.toNat) (h8 : s.ops.len.toNat ≤ 8)
include h1 h8

/-- A header and no more than OP_LEN bytes after it. -/
theorem run_stream_short {l : List Byte} (h : headerTail s.ops.id bs = some l) (hl : l.length ≤ s.ops.len.toNat) :
    ∃ u, Host.Core.run Sys2Proof.core (bs.length + 2) s = .next u ∧
      EndedWith { s with buf := storedAt s.buf 0 l } u (streamOutcome s.ops.id s.ops.len.toNat bs) := by
  obtain ⟨pre, hpre, hscan⟩ := run_scan_some hs (by rw [hp]) rfl hans h
  rw [hp] at hscan
  have hdata := run_data_from_zero (l := l) (rest := ⟨0, 0, 0⟩ :: rest) (s := s.polled pre ⟨.readData, true, 0, 0, false, 0⟩
    s.buf (byteAnswers l ++ ⟨0, 0, 0⟩ :: rest)) hs.polled rfl rfl h1 hl rfl
  rw [polled_polled] at hdata
  obtain ⟨u, hrun, hend⟩ := Parsing.run_silent_end (s := s.polled (pre ++ l)
    ⟨dataPhase l.length s.ops.len.toNat, true, BitVec.ofNat 4 l.length, 0, false, 0⟩ (storedAt s.buf 0 l) (⟨0, 0, 0⟩ :: rest))
    hs.polled hd rfl (dataPhase_ne_done _ _) rfl
  rw [polled_parser, outcome_of_data h h1 h8 hl rfl rfl rfl] at hend
  refine ⟨u, ?_, hend⟩
  rw [hpre, List.length_append, Nat.add_assoc, run_add _ _ hscan, run_add _ 2 hdata]
  exact hrun

/-- A header, the data bytes and at least one byte after them. -/
theorem run_stream_long {l : List Byte} (h : headerTail s.ops.id bs = some l) (hl : s.ops.len.toNat < l.length) :
    ∃ k u, k ≤ bs.length + 2 ∧ Host.Core.run Sys2Proof.core k s = .next u ∧
      EndedWith { s with buf := storedAt s.buf 0 (l.take s.ops.len.toNat) } u
        (streamOutcome s.ops.id s.ops.len.toNat bs) := by
  obtain ⟨pre, hpre, hscan⟩ := run_scan_some hs (by rw [hp]) rfl hans h
  rw [hp] at hscan
  have hlen : (l.take s.ops.len.toNat).length = s.ops.len.toNat := List.length_take_of_le hl.le
  have hsplit : byteAnswers l ++ ⟨0, 0, 0⟩ :: rest = byteAnswers (l.take s.ops.len.toNat) ++
      ⟨1, l[s.ops.len.toNat], 0⟩ :: (byteAnswers (l.drop (s.ops.len.toNat + 1)) ++ ⟨0, 0, 0⟩ :: rest) := by
    rw [byteAnswers_eq_of_lt hl, List.append_assoc, List.cons_append]
  have hdata := run_data_all (l := l.take s.ops.len.toNat) (s := s.polled pre ⟨.readData, true, 0, 0, false, 0⟩
    s.buf (byteAnswers l ++ ⟨0, 0, 0⟩ :: rest)) hs.polled rfl rfl h1 hlen hsplit
  rw [polled_polled] at hdata
  obtain ⟨u, hrun, hend⟩ := Parsing.run_checksum_end (b := l[s.ops.len.toNat])
    (s := s.polled (pre ++ l.take s.ops.len.toNat) ⟨.awaitChecksum, true, s.ops.len, 0, false, 0⟩
      (storedAt s.buf 0 (l.take s.ops.len.toNat))
      (⟨1, l[s.ops.len.toNat], 0⟩ :: (byteAnswers (l.drop (s.ops.len.toNat + 1)) ++ ⟨0, 0, 0⟩ :: rest)))
    hs.polled hd rfl rfl rfl rfl
  have hout : streamOutcome s.ops.id s.ops.len.toNat bs = (.ok, 0, l[s.ops.len.toNat]) := by
    simp only [streamOutcome, h]
    rw [if_neg (by omega), if_neg (by omega), if_neg (by omega), List.getD_eq_getElem _ _ hl]
  refine ⟨pre.length + (s.ops.len.toNat + 2), u, ?_, ?_, hout ▸ hend⟩
  · rw [hpre, List.length_append]
    omega
  · rw [hlen] at hdata
    rw [run_add _ _ hscan, run_add _ 2 hdata]
    exact hrun

end Streams

/-- Settles O44: no header, a short response, or a response with its checksum. -/
theorem readFrameClassifiesEveryStream : Obligations.ReadFrameClassifiesEveryStream := by
  intro s bs d rest hb ho hk ht h1 h8 hd hp hans
  rw [silentAfter_append] at hans
  have hs : Parsing s := ⟨hb, ho, hk, ht⟩
  suffices h : ∃ k u, k ≤ bs.length + 2 ∧ Host.Core.run Sys2Proof.core k s = .next u ∧
      EndedWith { s with buf := storedAt s.buf 0 (streamData s.ops.id s.ops.len.toNat bs) } u
        (streamOutcome s.ops.id s.ops.len.toNat bs) by
    obtain ⟨k, u, hk, hrun, heng, hdone, hout, herr, hbuf, hkept⟩ := h
    refine ⟨k, u, hk, hrun, heng, hdone, hout, herr, fun j => ?_, hkept⟩
    rw [hbuf]
    exact storedAt_zero_getD _ _ (by rw [streamData]; exact (List.length_take_le _ _).trans h8) j
  unfold streamData
  cases h : headerTail s.ops.id bs with
  | none =>
    obtain ⟨u, hrun, hend⟩ := run_stream_without_header hs hd hp hans s.ops.len.toNat h
    exact ⟨_, u, le_rfl, hrun, by simpa [storedAt] using hend⟩
  | some l =>
    obtain hl | hl := le_or_gt l.length s.ops.len.toNat
    · obtain ⟨u, hrun, hend⟩ := run_stream_short hs hd hp hans h1 h8 h hl
      exact ⟨_, u, le_rfl, hrun, by rwa [Option.getD_some, List.take_of_length_le hl]⟩
    · exact run_stream_long hs hd hp hans h1 h8 h hl

end Sys2Proof.Machine
end

section
/-! PROOFS. Two READ_FRAMEs that are alike in what READ_FRAME reads take the same steps (43_resync_parser.md section 6). -/

namespace Sys2Proof.Machine

/-! ### What READ_FRAME reads and what it answers -/

/-- The fields that a READ_FRAME reads before its parser is initialised, and the result registers. -/
structure Visible where
  cfg : Config
  active : Profile
  id : Byte
  len : BitVec 4
  ctl : Control
  turns : List Turn
  txAns : List TxWord
  rxAns : List RxWord
  rxLoop : List RxWord
  result : Bool × RCode × BitVec 4 × Byte × Byte

def State.visible (s : State) : Visible :=
  ⟨s.cfg, s.active, s.ops.id, s.ops.len, s.ctl, s.env.turns, s.env.txAns, s.env.rxAns, s.env.rxLoop,
    s.res.done, s.res.code, s.res.count, s.res.chk, s.res.err⟩

/-- Two states alike in the visible fields whose traces have grown by the same actions since a and b. -/
def Alike (a b : List Event) (s t : State) : Prop :=
  s.visible = t.visible ∧ ∃ tr, s.env.trace = a ++ tr ∧ t.env.trace = b ++ tr

/-- An answer to RxPoll has set the parser's registers to F of what they were, and BUF to B of the state. -/
def State.parserUpdate (F : Parser → Parser) (B : State → Vector Byte 8) (s : State) : State :=
  { s with parser := F s.parser, buf := B s }

namespace Alike

variable {a b : List Event} {s t : State} (h : Alike a b s t)
include h

/-- An operation whose effect on the visible fields and on the trace depends on the visible fields alone. -/
theorem map (f : State → State) (F : Visible → Visible) (es : List Event) (hv : ∀ u, (f u).visible = F u.visible)
    (ht : ∀ u, (f u).env.trace = u.env.trace ++ es) : Alike a b (f s) (f t) := by
  obtain ⟨heq, tr, hs, ht'⟩ := h
  exact ⟨by rw [hv, hv, heq], tr ++ es, by rw [ht, hs, List.append_assoc], by rw [ht, ht', List.append_assoc]⟩

/-- An operation that leaves the trace. -/
theorem map_silent (f : State → State) (F : Visible → Visible) (hv : ∀ u, (f u).visible = F u.visible)
    (ht : ∀ u, (f u).env.trace = u.env.trace) : Alike a b (f s) (f t) :=
  h.map f F [] hv fun u => by rw [ht, List.append_nil]

theorem record (e : Event) : Alike a b (s.record e) (t.record e) :=
  h.map (·.record e) id [e] (fun _ => rfl) fun _ => rfl

theorem setStep (k : BitVec 5) : Alike a b (s.setStep k) (t.setStep k) :=
  h.map_silent (·.setStep k) (fun v => { v with ctl := { v.ctl with stepNo := k } }) (fun _ => rfl) fun _ => rfl

theorem setTxi (k : BitVec 4) : Alike a b (s.setTxi k) (t.setTxi k) :=
  h.map_silent (·.setTxi k) (fun v => { v with ctl := { v.ctl with txi := k } }) (fun _ => rfl) fun _ => rfl

theorem setTxAns (l : List TxWord) : Alike a b (s.setTxAns l) (t.setTxAns l) :=
  h.map_silent (·.setTxAns l) (fun v => { v with txAns := l }) (fun _ => rfl) fun _ => rfl

theorem setRxAns (l : List RxWord) : Alike a b (s.setRxAns l) (t.setRxAns l) :=
  h.map_silent (·.setRxAns l) (fun v => { v with rxAns := l }) (fun _ => rfl) fun _ => rfl

theorem complete (c : RCode) (n : BitVec 4) (k e : Byte) : Alike a b (s.complete c n k e) (t.complete c n k e) :=
  h.map_silent (·.complete c n k e) (fun v => { v with ctl := { v.ctl with eng := .idle }, result := (true, c, n, k, e) })
    (fun _ => rfl) fun _ => rfl

theorem parserUpdate (F : Parser → Parser) (B : State → Vector Byte 8) :
    Alike a b (s.parserUpdate F B) (t.parserUpdate F B) :=
  h.map_silent (·.parserUpdate F B) id (fun _ => rfl) fun _ => rfl

theorem serveDelay : Alike a b s.serveDelay t.serveDelay := by
  rw [serveDelay_eq, serveDelay_eq]
  exact h.map_silent (fun u => { u with
    ctl := { u.ctl with dly := 0 }
    env := { u.env with clock := u.env.clock + periodsFor u.cfg u.ctl.dly.toNat } })
    (fun v => { v with ctl := { v.ctl with dly := 0 } }) (fun _ => rfl) fun _ => rfl

theorem selectResult (hp : s.parser = t.parser) : Alike a b s.selectResult t.selectResult := by
  by_cases he : t.parser.rxErrV = true
  · rw [selectResult_of_error he, selectResult_of_error (hp ▸ he), hp]
    exact h.complete _ _ _ _
  · rw [selectResult_of_no_error (eq_false_of_ne_true he), selectResult_of_no_error (hp ▸ eq_false_of_ne_true he), hp]
    exact h.complete _ _ _ _

/-- The beginning of an action, of those that READ_FRAME's list holds. -/
theorem begin_line (l : Level) : Alike a b (s.begin (.line l)) (t.begin (.line l)) :=
  h.map (·.begin (.line l)) id [.line l] (fun _ => rfl) fun _ => rfl

theorem begin_delay (n : Nat) : Alike a b (s.begin (.delay (some n))) (t.begin (.delay (some n))) :=
  h.map (·.begin (.delay (some n))) (fun v => { v with ctl := { v.ctl with dly := BitVec.ofNat 32 n } })
    [.delay (BitVec.ofNat 32 n)] (fun _ => rfl) fun _ => rfl

theorem begin_parse : Alike a b (s.begin .parse) (t.begin .parse) :=
  h.map_silent (·.begin .parse) id (fun _ => rfl) fun _ => rfl

theorem ctl_eq : s.ctl = t.ctl := congrArg Visible.ctl h.1
theorem txAns_eq : s.env.txAns = t.env.txAns := congrArg Visible.txAns h.1
theorem turns_eq : s.env.turns = t.env.turns := congrArg Visible.turns h.1

theorem rxNext_eq : s.rxNext = t.rxNext := by
  have hr : s.env.rxAns = t.env.rxAns := congrArg Visible.rxAns h.1
  have hl : s.env.rxLoop = t.env.rxLoop := congrArg Visible.rxLoop h.1
  rw [State.rxNext, State.rxNext, hr, hl]

theorem view_eq (hp : s.parser = t.parser) : s.view = t.view := by
  have hi : s.ops.id = t.ops.id := congrArg Visible.id h.1
  have hn : s.ops.len = t.ops.len := congrArg Visible.len h.1
  rw [State.view, State.view, hi, hn, hp]

/-- The actions of READ_FRAME's list are those of the visible fields. -/
theorem readFrameAction_eq (k : Nat) : readFrameAction s k = readFrameAction t k := by
  have hc : s.cfg = t.cfg := congrArg Visible.cfg h.1
  have ha : s.active = t.active := congrArg Visible.active h.1
  have hi : s.ops.id = t.ops.id := congrArg Visible.id h.1
  simp only [readFrameAction, breakAction, hc, ha, hi]

end Alike

/-! ### The command under way -/

/-- A READ_FRAME under way whose prechecks have passed, the engine left to itself. -/
structure Reading (s : State) : Prop where
  eng : s.ctl.eng = .busy
  op : s.ctl.curOp = .readFrame
  turns : s.env.turns = []
  space : s.active.ifsNs ≠ none
  timeout : s.active.rtoNs ≠ none
  len : 1 ≤ s.ops.len.toNat

theorem Reading.of_visible {s t : State} (h : Reading s) (hv : s.visible = t.visible) : Reading t where
  eng := (congrArg (·.ctl.eng) hv).symm.trans h.eng
  op := (congrArg (·.ctl.curOp) hv).symm.trans h.op
  turns := (congrArg Visible.turns hv).symm.trans h.turns
  space := (congrArg (·.active.ifsNs) hv) ▸ h.space
  timeout := (congrArg (·.active.rtoNs) hv) ▸ h.timeout
  len := (congrArg (·.len.toNat) hv) ▸ h.len

theorem Alike.action_eq {a b : List Event} {s t : State} (h : Alike a b s t) (hs : Reading s) : s.action = t.action := by
  have ht := hs.of_visible h.1
  rw [action_readFrame hs.eng hs.op, action_readFrame ht.eng ht.op, ← h.ctl_eq]
  exact h.readFrameAction_eq _

/-- An action that goes on after it has begun, and neither initialises the parser nor ends the command. -/
def Action.ongoing (a : Action) : Prop :=
  (∃ l, a = .line l) ∨ (∃ n, a = .delay (some n)) ∨ ∃ b, a = .tx b false

/-- READ_FRAME's list (R231) by the kinds of its actions. -/
theorem Reading.action_cases {s : State} (h : Reading s) (h1 : 1 ≤ s.ctl.stepNo.toNat) (h11 : s.ctl.stepNo.toNat ≤ 11) :
    (s.ctl.stepNo ≠ 9 ∧ s.ctl.stepNo ≠ 11 ∧ s.action.ongoing) ∨ (s.ctl.stepNo = 9 ∧ s.action = .parse) ∨
      (s.ctl.stepNo = 11 ∧ s.action = .select) := by
  obtain ⟨d, hd⟩ := Option.ne_none_iff_exists'.1 h.space
  obtain ⟨r, hr⟩ := Option.ne_none_iff_exists'.1 h.timeout
  rw [action_readFrame h.eng h.op]
  generalize s.ctl.stepNo = k at h1 h11 ⊢
  rcases frameStep_cases h1 h11 with rfl | ⟨h2, h5⟩ | rfl | rfl | rfl | rfl | rfl | rfl
  · exact .inl ⟨by decide, by decide, .inr (.inl ⟨d, congrArg _ hd⟩)⟩
  · have hk : k = 2 ∨ k = 3 ∨ k = 4 ∨ k = 5 := by bv_omega
    rcases hk with rfl | rfl | rfl | rfl
    · exact .inl ⟨by decide, by decide, .inl ⟨_, rfl⟩⟩
    · exact .inl ⟨by decide, by decide, .inr (.inl ⟨_, rfl⟩)⟩
    · exact .inl ⟨by decide, by decide, .inl ⟨_, rfl⟩⟩
    · exact .inl ⟨by decide, by decide, .inr (.inl ⟨_, rfl⟩)⟩
  · exact .inl ⟨by decide, by decide, .inr (.inr ⟨_, rfl⟩)⟩
  · exact .inl ⟨by decide, by decide, .inr (.inr ⟨_, rfl⟩)⟩
  · exact .inl ⟨by decide, by decide, .inr (.inl ⟨r, congrArg _ hr⟩)⟩
  · exact .inr (.inl ⟨rfl, rfl⟩)
  · exact .inl ⟨by decide, by decide, .inr (.inl ⟨d, congrArg _ hd⟩)⟩
  · exact .inr (.inr ⟨rfl, rfl⟩)

theorem Reading.setStep {s : State} (h : Reading s) (k : BitVec 5) : Reading (s.setStep k) :=
  ⟨h.eng, h.op, h.turns, h.space, h.timeout, h.len⟩

/-- The beginning of an action that goes on leaves the command, its STEP and the parser. -/
theorem Reading.begin_ongoing {s : State} {x : Action} (h : Reading s) (hx : x.ongoing) :
    Reading (s.begin x) ∧ (s.begin x).ctl.stepNo = s.ctl.stepNo ∧ (s.begin x).parser = s.parser := by
  rcases hx with ⟨l, rfl⟩ | ⟨n, rfl⟩ | ⟨b, rfl⟩ <;>
    exact ⟨⟨h.eng, h.op, h.turns, h.space, h.timeout, h.len⟩, rfl, rfl⟩

theorem Alike.begin_ongoing {a b : List Event} {s t : State} {x : Action} (h : Alike a b s t) (hx : x.ongoing) :
    Alike a b (s.begin x) (t.begin x) := by
  rcases hx with ⟨l, rfl⟩ | ⟨n, rfl⟩ | ⟨b, rfl⟩
  · exact h.begin_line l
  · exact h.begin_delay n
  · exact h

/-! ### The relation between the two runs -/

/-- The parse loop may poll: no answer is refused (R212, R48). -/
def ParseReady (p : Parser) (n : BitVec 4) : Prop :=
  p.phase ≠ .done ∧ (p.phase ≠ .awaitChecksum → p.count.toNat < n.toNat)

/-- Two READ_FRAMEs under way at the same STEP; from the parse loop on their parsers hold the same. -/
structure Together (s t : State) : Prop where
  reading : Reading s
  started : 1 ≤ s.ctl.stepNo.toNat
  unfinished : s.ctl.stepNo.toNat ≤ 10
  parser : 9 ≤ s.ctl.stepNo.toNat → s.parser = t.parser
  ready : s.ctl.stepNo = 9 → ParseReady s.parser s.ops.len

/-- The two runs: alike, and either at rest or together in the command. -/
structure Paired (a b : List Event) (s t : State) : Prop where
  alike : Alike a b s t
  run : (s.ctl.eng = .idle ∧ s.env.turns = []) ∨ Together s t

/-- Both go on to the next STEP. -/
theorem paired_nextStep {a b : List Event} {s t : State} (h : Alike a b s t) (hs : Reading s)
    (h10 : s.ctl.stepNo.toNat ≤ 10) (hp : 9 ≤ s.ctl.stepNo.toNat → s.parser = t.parser) :
    Paired a b s.nextStep t.nextStep := by
  have hsucc := stepNo_succ h10
  rw [State.nextStep, State.nextStep, ← h.ctl_eq]
  generalize hk : s.ctl.stepNo + 1 = k at hsucc ⊢
  have hset := h.setStep k
  have hread := hs.setStep k
  rw [State.enterStep, enterStep_of_action (hset.action_eq hread).symm]
  rcases hread.action_cases (by simp; omega) (by simp; omega) with ⟨h9, h11, hx⟩ | ⟨h9, hx⟩ | ⟨h11, hx⟩
  · obtain ⟨hbegun, hstep, hpar⟩ := hread.begin_ongoing hx
    obtain ⟨-, -, hpar'⟩ := (hread.of_visible hset.1).begin_ongoing hx
    have hne9 : k ≠ 9 := h9
    have hne11 : k ≠ 11 := h11
    refine ⟨hset.begin_ongoing hx, .inr ⟨hbegun, ?_, ?_, fun hge => ?_, fun h => absurd (hstep.symm.trans h) h9⟩⟩
    · rw [hstep]; simp; omega
    · rw [hstep]; simp; bv_omega
    · rw [hpar, hpar']
      refine hp ?_
      rw [hstep] at hge
      simp at hge
      bv_omega
  · rw [hx]
    have hbegun : Reading ((s.setStep k).begin .parse) := ⟨hs.eng, hs.op, hs.turns, hs.space, hs.timeout, hs.len⟩
    refine ⟨hset.begin_parse, .inr ⟨hbegun, ?_, ?_, fun _ => rfl, fun _ => ?_⟩⟩
    · exact Nat.le_trans (by decide) (congrArg BitVec.toNat h9).ge
    · exact Nat.le_trans (congrArg BitVec.toNat h9).le (by decide)
    · exact ⟨by simp [State.begin], fun _ => hs.len⟩
  · rw [hx]
    have hk11 : k = 11 := h11
    refine ⟨hset.selectResult (hp (by bv_omega)), .inl ?_⟩
    obtain ⟨c, n, x, e, heq⟩ := selectResult_eq (s.setStep k)
    rw [State.begin, heq]
    exact ⟨rfl, hs.turns⟩

/-! ### One poll -/

/-- What a row of the receive port does under its guard is an update of parser and BUF that reads the parser alone; either
polling goes on, or the command goes on to the next STEP (R202 to R210). -/
theorem exec_rx_update {s : State} {i : Instr} {w : RxWord} (he : encode i = .rx w) (hg : i.guard s.view = true)
    (hr : ParseReady s.parser s.ops.len) :
    ∃ a F B, (exec i = onPoll i a (State.parserUpdate F B) ∧ ParseReady (F s.parser) s.ops.len) ∨
      exec i = onPoll i a (fun u => (u.parserUpdate F B).nextStep) := by
  obtain ⟨hd, hc⟩ := hr
  cases i with
  | rxWouldBlock => exact ⟨.wouldBlock, id, State.buf, .inr rfl⟩
  | rxByteAwaitSyncSync b =>
    have hp : s.parser.phase = .awaitSync := beq_iff_eq.1 hg
    exact ⟨.byte b, fun p => { p with syncSeen := true, phase := .awaitId }, State.buf,
      .inl ⟨rfl, by simp, fun _ => hc (by simp [hp])⟩⟩
  | rxByteAwaitSyncOther b => exact ⟨.byte b, id, State.buf, .inl ⟨rfl, hd, hc⟩⟩
  | rxByteAwaitIdMatch b =>
    obtain ⟨hp, -⟩ := Bool.and_eq_true_iff.1 hg
    have hp : s.parser.phase = .awaitId := beq_iff_eq.1 hp
    exact ⟨.byte b, fun p => { p with phase := .readData }, State.buf, .inl ⟨rfl, by simp, fun _ => hc (by simp [hp])⟩⟩
  | rxByteAwaitIdMismatch b =>
    obtain ⟨hp, -⟩ := Bool.and_eq_true_iff.1 hg
    have hp : s.parser.phase = .awaitId := beq_iff_eq.1 hp
    exact ⟨.byte b, fun p => { p with phase := .awaitSync }, State.buf, .inl ⟨rfl, by simp, fun _ => hc (by simp [hp])⟩⟩
  | rxByteReadDataMore b =>
    obtain ⟨-, hlt⟩ := Bool.and_eq_true_iff.1 hg
    have hlt : s.parser.count.toNat + 1 < s.ops.len.toNat := of_decide_eq_true hlt
    exact ⟨.byte b, fun p => { p with count := p.count + 1 }, fun u => u.buf.setIfInBounds u.parser.count.toNat b,
      .inl ⟨rfl, hd, fun _ => by bv_omega⟩⟩
  | rxByteReadDataLast b =>
    exact ⟨.byte b, fun p => { p with count := p.count + 1, phase := .awaitChecksum },
      fun u => u.buf.setIfInBounds u.parser.count.toNat b, .inl ⟨rfl, by simp, fun h => absurd rfl h⟩⟩
  | rxByteAwaitChecksum b => exact ⟨.byte b, fun p => { p with chk := b, phase := .done }, State.buf, .inr rfl⟩
  | rxError e => exact ⟨.err e, fun p => { p with rxErrV := true, rxErr := e }, State.buf, .inr rfl⟩
  | rxReserved3 e => exact ⟨.err e, fun p => { p with rxErrV := true, rxErr := e }, State.buf, .inr rfl⟩
  | _ => cases he

section Steps

variable {a b : List Event} {s t : State} (h : Alike a b s t) (ht : Together s t)
include h ht

/-- Both poll: they wait, or take the same answer. -/
theorem paired_step_poll (hk : s.ctl.stepNo = 9) : ∃ s' t', step s = .next s' ∧ step t = .next t' ∧ Paired a b s' t' := by
  have hs := ht.reading
  have hs' := hs.of_visible h.1
  have hpar := ht.parser (by rw [hk]; decide)
  have hready := ht.ready hk
  have hp := polling_of_phase hs.eng hs.op hk rfl hready.1
  have hp' := polling_of_phase hs'.eng hs'.op (h.ctl_eq ▸ hk) rfl (hpar ▸ hready.1)
  cases hn : s.rxNext with
  | none =>
    exact ⟨s, t, unansweredActionWaits s hs.turns (.inr (.inr ⟨hp, (rxNext_none_iff s).1 hn⟩)),
      unansweredActionWaits t hs'.turns (.inr (.inr ⟨hp', (rxNext_none_iff t).1 (h.rxNext_eq ▸ hn)⟩)), h, .inr ht⟩
  | some r =>
    obtain ⟨w, rest⟩ := r
    have hcount : s.parser.phase = .readData → s.parser.count.toNat < s.ops.len.toNat := fun hd => hready.2 (by simp [hd])
    obtain ⟨i, hi⟩ := decodeRx_total w (v := s.view) hready.1 hcount
    obtain ⟨-, hw, hg, he⟩ := decodeRx_sound hi
    have hv := h.view_eq hpar
    have hans := h.setRxAns rest
    have hread : ∀ x F B, Reading (((s.setRxAns rest).record (.rx x)).parserUpdate F B) := fun _ _ _ =>
      ⟨hs.eng, hs.op, hs.turns, hs.space, hs.timeout, hs.len⟩
    rw [step_poll hs.turns hp hn hi, step_poll hs'.turns hp' (h.rxNext_eq ▸ hn) (hv ▸ hi)]
    obtain ⟨x, F, B, ⟨hex, hr⟩ | hex⟩ := exec_rx_update he hg hready
    · refine ⟨_, _, by rw [hex, onPoll_of_guard (by exact hp) hw (by exact hg)],
        by rw [hex, onPoll_of_guard (by exact hp') hw (by exact hv ▸ hg)],
        (hans.record (.rx x)).parserUpdate F B,
        .inr ⟨hread x F B, ht.started, ht.unfinished, fun _ => congrArg F hpar, fun _ => hr⟩⟩
    · exact ⟨_, _, by rw [hex, onPoll_of_guard (by exact hp) hw (by exact hg)],
        by rw [hex, onPoll_of_guard (by exact hp') hw (by exact hv ▸ hg)],
        paired_nextStep ((hans.record (.rx x)).parserUpdate F B) (hread x F B) ht.unfinished fun _ => congrArg F hpar⟩

/-- Both are at a header byte: they wait, or take the same answer. -/
theorem paired_step_tx {x : Byte} (ha : s.action = .tx x false) :
    ∃ s' t', step s = .next s' ∧ step t = .next t' ∧ Paired a b s' t' := by
  have hs := ht.reading
  have hs' := hs.of_visible h.1
  have ha' := (h.action_eq hs).symm.trans ha
  cases hw : s.env.txAns with
  | nil =>
    exact ⟨s, t, unansweredActionWaits s hs.turns (.inl ⟨⟨x, false, ha⟩, hw⟩),
      unansweredActionWaits t hs'.turns (.inl ⟨⟨x, false, ha'⟩, h.txAns_eq ▸ hw⟩), h, .inr ht⟩
  | cons w rest =>
    have hans := h.setTxAns rest
    rw [step_of_no_turn hs.turns (not_halted_of_action (by simp [ha])), engineMove_tx ha hw,
      step_of_no_turn hs'.turns (not_halted_of_action (by simp [ha'])), engineMove_tx ha' (h.txAns_eq ▸ hw),
      exec_decodeTx (s := s.setTxAns rest) ((action_of_env s _).trans ha),
      exec_decodeTx (s := t.setTxAns rest) ((action_of_env t _).trans ha')]
    refine ⟨_, _, rfl, rfl, ?_⟩
    split
    · have htaken := (hans.record (.tx x .ok)).setTxi (s.ctl.txi + 1)
      rw [txTaken_last, txTaken_last, State.setTxAns_ctl, State.setTxAns_ctl, ← h.ctl_eq]
      exact paired_nextStep htaken ⟨hs.eng, hs.op, hs.turns, hs.space, hs.timeout, hs.len⟩ ht.unfinished ht.parser
    · exact ⟨(hans.record (.tx x (.err w.err))).complete _ _ _ _, .inl ⟨rfl, hs.turns⟩⟩

/-- One step of both. -/
theorem paired_step_together : ∃ s' t', step s = .next s' ∧ step t = .next t' ∧ Paired a b s' t' := by
  have hs := ht.reading
  have hs' := hs.of_visible h.1
  have hl := ht.unfinished
  rcases hs.action_cases ht.started (by omega) with ⟨h9, -, ⟨l, ha⟩ | ⟨n, ha⟩ | ⟨x, ha⟩⟩ | ⟨h9, -⟩ | ⟨h11, -⟩
  · exact ⟨_, _, step_line hs.turns ha, step_line hs'.turns ((h.action_eq hs).symm.trans ha), paired_nextStep h hs hl ht.parser⟩
  · have ha' := (h.action_eq hs).symm.trans ha
    exact ⟨_, _, (step_of_no_turn hs.turns (not_halted_of_action (by simp [ha]))).trans (engineMove_delay ha),
      (step_of_no_turn hs'.turns (not_halted_of_action (by simp [ha']))).trans (engineMove_delay ha'),
      paired_nextStep h.serveDelay ⟨hs.eng, hs.op, hs.turns, hs.space, hs.timeout, hs.len⟩ hl ht.parser⟩
  · exact paired_step_tx h ht ha
  · exact paired_step_poll h ht h9
  · rw [h11] at hl
    exact absurd hl (by decide)

end Steps

/-! ### The two runs -/

theorem step_of_idle {s : State} (hi : s.ctl.eng = .idle) (ht : s.env.turns = []) : step s = .next s := by
  rw [step_of_no_turn ht (by simp [hi]), engineMove_of_not_busy (by simp [hi])]

theorem Paired.step {a b : List Event} {s t : State} (h : Paired a b s t) :
    ∃ s' t', step s = .next s' ∧ step t = .next t' ∧ Paired a b s' t' := by
  rcases h.run with ⟨hi, ht⟩ | ht
  · exact ⟨s, t, step_of_idle hi ht, step_of_idle (h.alike.ctl_eq ▸ hi) (h.alike.turns_eq ▸ ht), h⟩
  · exact paired_step_together h.alike ht

/-- Any number of steps of both. -/
theorem Paired.run_steps {a b : List Event} {s t : State} (h : Paired a b s t) (k : Nat) :
    ∃ s' t', Host.Core.run Sys2Proof.core k s = .next s' ∧ Host.Core.run Sys2Proof.core k t = .next t' ∧ Paired a b s' t' := by
  induction k generalizing s t with
  | zero => exact ⟨s, t, rfl, rfl, h⟩
  | succ k ih =>
    obtain ⟨u, v, hu, hv, huv⟩ := h.step
    obtain ⟨s', t', hs, ht, hst⟩ := ih huv
    exact ⟨s', t', (run_succ k hu).trans hs, (run_succ k hv).trans ht, hst⟩

/-- READ_FRAME as its acceptance leaves it, the leading inter-frame space begun (R231). -/
def State.readAccepted (s : State) (d : Nat) : State :=
  (((s.accept .readFrame).setTxi 0).setStep 1).loadDelay (BitVec.ofNat 32 d)

/-- The visible fields after the acceptance, the old result dropped. -/
theorem readAccepted_visible (s : State) (d : Nat) :
    (s.readAccepted d).visible = ⟨s.cfg, s.active, s.ops.id, s.ops.len, ⟨.busy, .readFrame, 1, 0, BitVec.ofNat 32 d⟩,
      s.env.turns, s.env.txAns, s.env.rxAns, s.env.rxLoop, false, .ok, 0, 0, 0⟩ := rfl

/-- Settles O48: the accepted commands are paired, and stay so at every step. -/
theorem readFrameForgetsThePast : Obligations.ReadFrameForgetsThePast := by
  intro s₁ s₂ k hi₁ hi₂ hcfg hact hid hlen ht₁ ht₂ htx hrx hloop h1 h8 hifs hrto
  obtain ⟨d, hd⟩ := Option.ne_none_iff_exists'.1 hifs
  obtain ⟨r, hr⟩ := Option.ne_none_iff_exists'.1 hrto
  have he₁ := exec_readFrame_eq hi₁ h1 h8 hd hr
  have he₂ := exec_readFrame_eq hi₂ (hlen ▸ h1) (hlen ▸ h8) (hact ▸ hd) (hact ▸ hr)
  have hv : (s₁.readAccepted d).visible = (s₂.readAccepted d).visible := by
    rw [readAccepted_visible, readAccepted_visible, hcfg, hact, hid, hlen, ht₁, ht₂, htx, hrx, hloop]
  have hpaired : Paired s₁.env.trace s₂.env.trace (s₁.readAccepted d) (s₂.readAccepted d) :=
    ⟨⟨hv, [.delay (BitVec.ofNat 32 d)], rfl, rfl⟩,
      .inr ⟨⟨rfl, rfl, ht₁, hifs, hrto, h1⟩, Nat.le_refl 1, Nat.le_add_left 1 9,
      fun h => absurd h (show ¬9 ≤ 1 by decide), fun h => absurd h (show ¬(1 : BitVec 5) = 9 by decide)⟩⟩
  obtain ⟨u₁, u₂, hr₁, hr₂, ⟨hv, tr, htr₁, htr₂⟩, -⟩ := hpaired.run_steps k
  have hctl := congrArg (·.ctl.eng) hv
  have hres : (u₁.res.done, u₁.res.code, u₁.res.count, u₁.res.chk, u₁.res.err) =
    (u₂.res.done, u₂.res.code, u₂.res.count, u₂.res.chk, u₂.res.err) := congrArg Visible.result hv
  simp only [Prod.mk.injEq] at hres
  obtain ⟨hdone, hcode, hcount, hchk, herr⟩ := hres
  exact ⟨_, _, u₁, u₂, tr, he₁, he₂, hr₁, hr₂, hctl, hdone, hcode, hcount, hchk, herr, htr₁, htr₂⟩

end Sys2Proof.Machine
end
